-- ==== Sys2Proof/Word.lean ====
section
/-! DEFINITION. The word types of the block (spec/00_scope.md R7, R8): a bit vector of width N is a `uN`, or an `sN`
when it is read through `toInt`. -/

namespace Sys2Proof

/-- A device register's content, or one byte of a burst (R7). -/
abbrev Byte := BitVec 8

/-- A command word `C` (30_encoding.md R80). -/
abbrev CommandWord := BitVec 64

/-- The register width of RES (R22). -/
abbrev Word32 := BitVec 32

end Sys2Proof
end

