-- ==== Sys2Proof/Config.lean ====
section
/-! DEFINITION. The implementation parameters of spec/00_scope.md R6, and the free values of the transport (R62). A
definition with no body is an open parameter or a free value: no proof can see what it is. -/

namespace Sys2Proof.Config

/-! Device register addresses and lengths (R6, R88). -/

/-- EXPECTED_ID (R6, R89). -/
def expectedId : Byte := 0x60#8
/-- REG_ID (R6). -/
def regId : Byte := 0xD0#8
/-- REG_CALIB00 (R6). -/
def regCalib00 : Byte := 0x88#8
/-- LEN_CALIB00 (R6). -/
abbrev lenCalib00 : Nat := 26
/-- REG_CALIB26 (R6). -/
def regCalib26 : Byte := 0xE1#8
/-- LEN_CALIB26 (R6). -/
abbrev lenCalib26 : Nat := 7
/-- REG_CTRL_HUM (R6). -/
def regCtrlHum : Byte := 0xF2#8
/-- REG_STATUS (R6). -/
def regStatus : Byte := 0xF3#8
/-- REG_CTRL_MEAS (R6). -/
def regCtrlMeas : Byte := 0xF4#8
/-- REG_CONFIG (R6). -/
def regConfig : Byte := 0xF5#8
/-- REG_DATA (R6). -/
def regData : Byte := 0xF7#8
/-- LEN_DATA (R6). -/
abbrev lenData : Nat := 8

/-! Values the spec fixes (R6). -/

/-- STATUS_MEAS_BIT (R6, R91); the spec follows its source, bit 2 (90_conflicts.md C7). UNVERIFIED, log 10. -/
def statusMeasBit : Nat := 2
/-- STATUS_UPD_BIT (R6, R91). -/
def statusUpdBit : Nat := 0
/-- POLL_D0 (R6). -/
def pollD0 : Nat := 2
/-- POLL_DMAX (R6). -/
def pollDMax : Nat := 32768
/-- HUM_CLAMP_MAX (R6, R201). -/
def humClampMax : Word32 := 419430400#32
/-- CAL_H3_SIGNED (R6, R125, D8). UNVERIFIED, log 10. -/
def calH3Signed : Bool := false
/-- CONFIG_LOW, the CONFIG bits 4:0 the block writes (R6, R145, D15). -/
def configLow : Byte := 0x00#8

/-! Open parameters (R6, D3, D4, D16): no default in the spec, so no body here (log 9). -/

/-- SLAVE_ADDR: the device's bus address. -/
opaque slaveAddr : Nat
/-- TIME_UNIT: how long one time unit of `Delay` is. -/
opaque timeUnit : Nat
/-- TIMER_PERIOD(sb): the period handed to the scheduler for a standby code. -/
opaque timerPeriod : BitVec 3 → Nat

/-! Free values of the transport (R62), log 1: the answer to the `k`-th draw where the state lists none. -/

/-- The success flag of draw `k`. -/
opaque transportOk : Nat → Bool
/-- Byte `i` of the answer to draw `k`. -/
opaque transportByte : Nat → Nat → Byte

end Sys2Proof.Config
end

