-- ==== Sys2Proof/Syntax.lean ====
section
/-! DEFINITION. The ten commands of `CMDv1` (spec/30_encoding.md R82) and the fields of a command word (R80). -/

namespace Sys2Proof

/-- A command, one constructor per row of spec/opcode_table.json. Operands are the u3 codes, the u32 timeout and the
booleans of R81, as they stand in the word. `cb` is the bit CB of R80. -/
inductive Instr where
  /-- OPEN (40_calibration.md R121). -/
  | openCmd (cb : Bool)
  /-- CLOSE (41_mode_control.md R148). -/
  | closeCmd (cb : Bool)
  /-- TRIGGER_FORCED (R142) with OT, OP, OH. -/
  | triggerForced (cb : Bool) (ot op oh : BitVec 3)
  /-- START_NORMAL (R144) with SB. -/
  | startNormal (cb : Bool) (sb : BitVec 3)
  /-- STOP (R146). -/
  | stop (cb : Bool)
  /-- POLL (R150) with RD and TMO. -/
  | poll (cb rd : Bool) (tmo : BitVec 32)
  /-- READ_RAW (42_raw_reader.md R181). -/
  | readRaw (cb : Bool)
  /-- COMP_T (43_compensation.md R193). -/
  | compT (cb : Bool)
  /-- COMP_P (R198). -/
  | compP (cb : Bool)
  /-- COMP_H (R203). -/
  | compH (cb : Bool)
deriving DecidableEq, Repr

/-- The fields of a command word, as the table of R80 lists them. -/
structure Fields where
  /-- OPC, `C[3:0]`. -/
  opc : BitVec 4
  /-- CB, `C[4]`. -/
  cb : Bool
  /-- RD, `C[5]`. -/
  rd : Bool
  /-- reserved, `C[7:6]`. -/
  rsvLow : BitVec 2
  /-- OT, `C[10:8]`. -/
  ot : BitVec 3
  /-- OP, `C[13:11]`. -/
  op : BitVec 3
  /-- OH, `C[16:14]`. -/
  oh : BitVec 3
  /-- SB, `C[19:17]`. -/
  sb : BitVec 3
  /-- reserved, `C[31:20]`. -/
  rsvHigh : BitVec 12
  /-- TMO, `C[63:32]`. -/
  tmo : BitVec 32
deriving DecidableEq, Repr

/-- The mnemonic of a command (R82). -/
def Instr.mnemonic : Instr → String
  | .openCmd _ => "OPEN"
  | .closeCmd _ => "CLOSE"
  | .triggerForced _ _ _ _ => "TRIGGER_FORCED"
  | .startNormal _ _ => "START_NORMAL"
  | .stop _ => "STOP"
  | .poll _ _ _ => "POLL"
  | .readRaw _ => "READ_RAW"
  | .compT _ => "COMP_T"
  | .compP _ => "COMP_P"
  | .compH _ => "COMP_H"

end Sys2Proof
end

