-- ==== Sys2Proof/WellFormed.lean ====
section
/-! DEFINITION. When the fields of a command word are a command (spec/30_encoding.md R82, R83, R100): a defined
opcode, reserved bits 0, and every field its command does not allow 0. -/

namespace Sys2Proof.Fields

/-- Reserved bits `C[7:6]` and `C[31:20]` are 0 (R80, R100). -/
def reservedZero (f : Fields) : Bool := f.rsvLow == 0#2 && f.rsvHigh == 0#12

/-- RD is not set. -/
def noRd (f : Fields) : Bool := !f.rd

/-- OT, OP and OH are 0. -/
def noOsrs (f : Fields) : Bool := f.ot == 0#3 && f.op == 0#3 && f.oh == 0#3

/-- SB is 0. -/
def noSb (f : Fields) : Bool := f.sb == 0#3

/-- TMO is 0. -/
def noTmo (f : Fields) : Bool := f.tmo == 0#32

/-- The "allowed fields" column of R82: the opcode is defined and the fields it does not allow are 0. CB is allowed
on every command. -/
def allowedOnly (f : Fields) : Bool :=
  match f.opc.toNat with
  | 1 => f.noRd && f.noOsrs && f.noSb && f.noTmo
  | 2 => f.noRd && f.noOsrs && f.noSb && f.noTmo
  | 3 => f.noRd && f.noSb && f.noTmo
  | 4 => f.noRd && f.noOsrs && f.noTmo
  | 5 => f.noRd && f.noOsrs && f.noSb && f.noTmo
  | 6 => f.noOsrs && f.noSb
  | 7 => f.noRd && f.noOsrs && f.noSb && f.noTmo
  | 8 => f.noRd && f.noOsrs && f.noSb && f.noTmo
  | 9 => f.noRd && f.noOsrs && f.noSb && f.noTmo
  | 10 => f.noRd && f.noOsrs && f.noSb && f.noTmo
  | _ => false

/-- The fields stand for a command (R83). -/
def wf (f : Fields) : Bool := f.reservedZero && f.allowedOnly

end Sys2Proof.Fields
end

