-- ==== Sys2Proof/Decode.lean ====
section
/-! DEFINITION. Decoding a command word (spec/30_encoding.md R80 to R84, R100, R101), total on every 64-bit word, and
the encoder (R102). -/

namespace Sys2Proof

/-- The fields of a word, by the bit ranges of R80. -/
def Fields.ofWord (c : CommandWord) : Fields where
  opc := c.extractLsb' 0 4
  cb := c.getLsbD 4
  rd := c.getLsbD 5
  rsvLow := c.extractLsb' 6 2
  ot := c.extractLsb' 8 3
  op := c.extractLsb' 11 3
  oh := c.extractLsb' 14 3
  sb := c.extractLsb' 17 3
  rsvHigh := c.extractLsb' 20 12
  tmo := c.extractLsb' 32 32

/-- The command that well-formed fields stand for (R82); an opcode the table reserves is none. -/
def Fields.instr? (f : Fields) : Option Instr :=
  match f.opc.toNat with
  | 1 => some (.openCmd f.cb)
  | 2 => some (.closeCmd f.cb)
  | 3 => some (.triggerForced f.cb f.ot f.op f.oh)
  | 4 => some (.startNormal f.cb f.sb)
  | 5 => some (.stop f.cb)
  | 6 => some (.poll f.cb f.rd f.tmo)
  | 7 => some (.readRaw f.cb)
  | 8 => some (.compT f.cb)
  | 9 => some (.compP f.cb)
  | 10 => some (.compH f.cb)
  | _ => none

/-- The decoder (R83): `none` is the answer ILLEGAL. -/
def decode (c : CommandWord) : Option Instr :=
  if (Fields.ofWord c).wf then (Fields.ofWord c).instr? else none

/-- `decode` on a word numbered as spec/opcode_table.json numbers it. A command is one 64-bit word (R101), so bits
above `nbits` are 0 and a number past 64 bits is no command word. -/
def decodeTableWord (nbits w : Nat) : Option Instr :=
  if nbits ≤ 64 ∧ w < 2 ^ nbits then decode (BitVec.ofNat 64 w) else none

/-! ## The encoder -/

/-- The fields of a command: its opcode, CB, and the fields R82 allows it. -/
def Instr.fields : Instr → Fields
  | .openCmd cb => ⟨0x1, cb, false, 0, 0, 0, 0, 0, 0, 0⟩
  | .closeCmd cb => ⟨0x2, cb, false, 0, 0, 0, 0, 0, 0, 0⟩
  | .triggerForced cb ot op oh => ⟨0x3, cb, false, 0, ot, op, oh, 0, 0, 0⟩
  | .startNormal cb sb => ⟨0x4, cb, false, 0, 0, 0, 0, sb, 0, 0⟩
  | .stop cb => ⟨0x5, cb, false, 0, 0, 0, 0, 0, 0, 0⟩
  | .poll cb rd tmo => ⟨0x6, cb, rd, 0, 0, 0, 0, 0, 0, tmo⟩
  | .readRaw cb => ⟨0x7, cb, false, 0, 0, 0, 0, 0, 0, 0⟩
  | .compT cb => ⟨0x8, cb, false, 0, 0, 0, 0, 0, 0, 0⟩
  | .compP cb => ⟨0x9, cb, false, 0, 0, 0, 0, 0, 0, 0⟩
  | .compH cb => ⟨0xA, cb, false, 0, 0, 0, 0, 0, 0, 0⟩

/-- A command is well formed when its fields are. Every value of `Instr` is: its operand types admit no other. -/
def Instr.wf (i : Instr) : Bool := i.fields.wf

/-- The word of some fields: `OPC | CB<<4 | RD<<5 | OT<<8 | OP<<11 | OH<<14 | SB<<17 | TMO<<32` (R102), with the
reserved fields at bits 6 and 20. -/
def Fields.word (f : Fields) : CommandWord :=
  f.opc.setWidth 64 ||| (BitVec.ofBool f.cb).setWidth 64 <<< 4 ||| (BitVec.ofBool f.rd).setWidth 64 <<< 5 |||
    f.rsvLow.setWidth 64 <<< 6 ||| f.ot.setWidth 64 <<< 8 ||| f.op.setWidth 64 <<< 11 ||| f.oh.setWidth 64 <<< 14 |||
    f.sb.setWidth 64 <<< 17 ||| f.rsvHigh.setWidth 64 <<< 20 ||| f.tmo.setWidth 64 <<< 32

/-- The command word of a command. -/
def encode (i : Instr) : CommandWord := i.fields.word

/-! ## The opcode table as masks (R83, R84) -/

/-- R84: CB. -/
def maskCB : CommandWord := 0x10
/-- R84: RD. -/
def maskRD : CommandWord := 0x20
/-- R84: OT. -/
def maskOT : CommandWord := 0x700
/-- R84: OP. -/
def maskOP : CommandWord := 0x3800
/-- R84: OH. -/
def maskOH : CommandWord := 0x1C000
/-- R84: SB. -/
def maskSB : CommandWord := 0xE0000
/-- R84: TMO. -/
def maskTMO : CommandWord := 0xFFFFFFFF00000000

/-- A row of R82: mnemonic, opcode, and the OR of its allowed-field masks. -/
structure OpcodeRow where
  mnemonic : String
  opc : BitVec 4
  allowed : CommandWord
deriving DecidableEq, Repr

/-- `mask = NOT A` (R83). -/
def OpcodeRow.mask (r : OpcodeRow) : CommandWord := ~~~r.allowed

/-- `match = OPC` (R83). -/
def OpcodeRow.pattern (r : OpcodeRow) : CommandWord := r.opc.setWidth 64

/-- `(C AND mask) = match` (R83). -/
def OpcodeRow.isMatch (r : OpcodeRow) (c : CommandWord) : Bool := c &&& r.mask == r.pattern

/-- The table of R82. -/
def opcodeTable : List OpcodeRow :=
  [⟨"OPEN", 0x1, maskCB⟩,
   ⟨"CLOSE", 0x2, maskCB⟩,
   ⟨"TRIGGER_FORCED", 0x3, maskCB ||| maskOT ||| maskOP ||| maskOH⟩,
   ⟨"START_NORMAL", 0x4, maskCB ||| maskSB⟩,
   ⟨"STOP", 0x5, maskCB⟩,
   ⟨"POLL", 0x6, maskCB ||| maskRD ||| maskTMO⟩,
   ⟨"READ_RAW", 0x7, maskCB⟩,
   ⟨"COMP_T", 0x8, maskCB⟩,
   ⟨"COMP_P", 0x9, maskCB⟩,
   ⟨"COMP_H", 0xA, maskCB⟩]

/-! ## Pseudo-instructions (R103) -/

/-- `MEASURE t=a p=b h=c tmo=n`. -/
def pseudoMeasure (a b c : BitVec 3) (n : BitVec 32) : List Instr :=
  [.triggerForced false a b c, .poll false true n]

/-- `COMPENSATE`, in the order the source requires. -/
def pseudoCompensate : List Instr := [.compT false, .compP false, .compH false]

end Sys2Proof
end

