-- ==== Sys2Proof/Machine/State.lean ====
section
/-! DEFINITION. The state of the block (spec/10_state.md R22), the environment's inputs and the transaction trace, as
plain data; the reasons a step can stop; the state after reset (70_reset_and_hazards.md R260). -/

namespace Sys2Proof.Machine

/-- The outcome codes of 60_exceptions.md R230. -/
inductive OutcomeCode where
  | ok | transportError | identityMismatch | timeout | notOpen | noSample | noTfine | sessionActive | illegal | context
deriving DecidableEq, Repr

/-- Why the machine could stop. The block has no trap and no fault: every abnormal condition is an outcome in STS
(R230, R242), so nobody raises one and the type has no constructor (log 8). -/
inductive Fault where
deriving DecidableEq, Repr

/-- Why a command could be refused by the MODEL. -/
inductive Refusal where
  /-- The command has no meaning yet. Raised by `exec`'s arms only; no arm raises it now. Safe: the run stops. -/
  | notModelled (mnemonic : String)
deriving DecidableEq, Repr

/-- One interaction of the block with an external collaborator (00_scope.md R12), as the transaction trace shows it. -/
inductive Event where
  /-- `BusRead(addr, len)` and its answer; `bytes` is empty when `ok` is false. -/
  | read (addr : Byte) (len : Nat) (ok : Bool) (bytes : List Byte)
  /-- `BusWrite(addr, v)` and its answer. -/
  | write (addr v : Byte) (ok : Bool)
  /-- `Delay(d)`. -/
  | delay (d : BitVec 16)
  /-- `SessionCreate(sb)`. -/
  | sessionCreate (sb : BitVec 3)
  /-- `SessionRelease()`. -/
  | sessionRelease
deriving DecidableEq, Repr

/-- One answer of the transport (20_memory.md R62): the success flag and the bytes it returns. A byte the list does
not hold is a free value (log 1). -/
structure Answer where
  ok : Bool
  bytes : List Byte
deriving DecidableEq, Repr

/-- The coefficient file (R22, R24). Signed coefficients are read through `toInt`. -/
structure Coeffs where
  t1 : BitVec 16
  t2 : BitVec 16
  t3 : BitVec 16
  p1 : BitVec 16
  p2 : BitVec 16
  p3 : BitVec 16
  p4 : BitVec 16
  p5 : BitVec 16
  p6 : BitVec 16
  p7 : BitVec 16
  p8 : BitVec 16
  p9 : BitVec 16
  h1 : BitVec 8
  h2 : BitVec 16
  h3 : BitVec 8
  h4 : BitVec 12
  h5 : BitVec 12
  h6 : BitVec 8
deriving DecidableEq, Repr

/-- The RawMeasurement (R22, R26). -/
structure Raw where
  adcP : BitVec 20
  adcT : BitVec 20
  adcH : BitVec 16
deriving DecidableEq, Repr

/-- IDLE or BUSY (R22, R36). BUSY holds the operands RD and TMO of the POLL that is running (log 3). -/
inductive Phase where
  | idle
  | busy (rd : Bool) (tmo : BitVec 32)
deriving DecidableEq, Repr

/-- The block's state (R22), then its trace output (R39), then the environment's inputs (logs 1 and 2). -/
structure State where
  /-- `cal_buf[0..33)` (R23). -/
  calBuf : Vector Byte 33
  /-- The 18 coefficients (R24). -/
  coef : Coeffs
  /-- `open` (R25). -/
  isOpen : Bool
  /-- `adc_P`, `adc_T`, `adc_H` (R26). -/
  raw : Raw
  /-- `raw_valid` (R27). -/
  rawValid : Bool
  /-- `t_fine`, s32 (R28). -/
  tFine : BitVec 32
  /-- `tf_valid` (R29). -/
  tfValid : Bool
  /-- `mode`: 0 Sleep, 1 Forced, 3 Normal (R30). -/
  mode : BitVec 2
  /-- `sb` (R31). -/
  sb : BitVec 3
  /-- `osrs_t` (R32). -/
  osrsT : BitVec 3
  /-- `osrs_p` (R32). -/
  osrsP : BitVec 3
  /-- `osrs_h` (R32). -/
  osrsH : BitVec 3
  /-- `session_active` (R33). -/
  sessionActive : Bool
  /-- `session_gen` (R33). -/
  sessionGen : BitVec 32
  /-- `poll_d` (R35). -/
  pollD : BitVec 16
  /-- `poll_total` (R35). -/
  pollTotal : BitVec 64
  /-- `poll_reads` (R35). -/
  pollReads : BitVec 32
  /-- `phase` (R36). -/
  phase : Phase
  /-- `STS` (R37). -/
  sts : BitVec 8
  /-- `RES` (R37). -/
  res : BitVec 32
  /-- The transaction trace (R39), oldest first (log 5). -/
  trace : List Event
  /-- MODEL's own: command words on the port that the block has not taken, next first (log 2). -/
  port : List CommandWord
  /-- MODEL's own: the transport's answers that are not drawn yet, next first (log 1). -/
  answers : List Answer
  /-- MODEL's own: how many answers have been drawn; it indexes the free values of Config (log 1). -/
  draws : Nat
deriving DecidableEq, Repr

/-- Every coefficient 0: DESIGN CHOICE, the spec leaves them unspecified at reset (log 4). -/
def Coeffs.zero : Coeffs := ⟨0, 0, 0, 0, 0, 0, 0, 0, 0, 0, 0, 0, 0, 0, 0, 0, 0, 0⟩

/-- The block right after reset (R22, R260, R261). `calBuf`, `coef`, `raw`, `tFine`, `pollD`, `pollTotal` and
`pollReads` are unspecified in the spec and 0 here: DESIGN CHOICE, log 4. The inputs are empty: DESIGN CHOICE, logs
1 and 2. -/
def State.reset : State where
  calBuf := Vector.replicate 33 0
  coef := Coeffs.zero
  isOpen := false
  raw := ⟨0, 0, 0⟩
  rawValid := false
  tFine := 0
  tfValid := false
  mode := 0
  sb := 0
  osrsT := 0
  osrsP := 0
  osrsH := 0
  sessionActive := false
  sessionGen := 0
  pollD := 0
  pollTotal := 0
  pollReads := 0
  phase := .idle
  sts := 0
  res := 0
  trace := []
  port := []
  answers := []
  draws := 0

end Sys2Proof.Machine
end

