-- ==== Sys2Proof/Machine/Flags.lean ====
section
/-! DEFINITION. Outcome codes and the status word (spec/10_state.md R37, 60_exceptions.md R230), the pre-checks in
their one order (R231), the readiness test of a status byte (41_mode_control.md R149), and the validity of a session
handle (R33). -/

namespace Sys2Proof.Machine

/-- The numbers of R230. -/
def OutcomeCode.bits : OutcomeCode → BitVec 4
  | .ok => 0
  | .transportError => 1
  | .identityMismatch => 2
  | .timeout => 3
  | .notOpen => 4
  | .noSample => 5
  | .noTfine => 6
  | .sessionActive => 7
  | .illegal => 8
  | .context => 9

/-- `{000, deg, code}` (R37, R86). -/
def stsWord (code : OutcomeCode) (deg : Bool) : BitVec 8 := 0#3 ++ BitVec.ofBool deg ++ code.bits

/-- The CB bit of a command. -/
def commandCb : Instr → Bool
  | .openCmd cb | .closeCmd cb | .triggerForced cb _ _ _ | .startNormal cb _ | .stop cb | .poll cb _ _ | .readRaw cb
  | .compT cb | .compP cb | .compH cb => cb

/-- The commands that may issue a transaction, and so refuse with CONTEXT when CB = 1 (R231 item 2, R233). -/
def isBusCommand : Instr → Bool
  | .openCmd _ | .closeCmd _ | .triggerForced _ _ _ _ | .startNormal _ _ | .stop _ | .poll _ _ _ | .readRaw _ => true
  | .compT _ | .compP _ | .compH _ => false

/-- The commands gated by `open` (R231 item 3, R234). -/
def needsOpen : Instr → Bool
  | .triggerForced _ _ _ _ | .startNormal _ _ | .poll _ _ _ | .readRaw _ | .compT _ | .compP _ | .compH _ => true
  | .openCmd _ | .closeCmd _ | .stop _ => false

/-- The commands a live session refuses (R231 item 4, R235). -/
def needsNoSession : Instr → Bool
  | .openCmd _ | .triggerForced _ _ _ _ | .startNormal _ _ => true
  | .closeCmd _ | .stop _ | .poll _ _ _ | .readRaw _ | .compT _ | .compP _ | .compH _ => false

/-- The command gated by `raw_valid` (R231 item 5, R236). -/
def needsSample : Instr → Bool
  | .compT _ => true
  | .openCmd _ | .closeCmd _ | .triggerForced _ _ _ _ | .startNormal _ _ | .stop _ | .poll _ _ _ | .readRaw _
  | .compP _ | .compH _ => false

/-- The commands gated by `tf_valid` (R231 item 6, R237). -/
def needsTfine : Instr → Bool
  | .compP _ | .compH _ => true
  | .openCmd _ | .closeCmd _ | .triggerForced _ _ _ _ | .startNormal _ _ | .stop _ | .poll _ _ _ | .readRaw _
  | .compT _ => false

/-- The first pre-check that applies, items 2 to 6 of R231 in their order (item 1, ILLEGAL, is the decoder's). -/
def preCheck (i : Instr) (s : State) : Option OutcomeCode :=
  if isBusCommand i && commandCb i then some .context
  else if needsOpen i && !s.isOpen then some .notOpen
  else if needsNoSession i && s.sessionActive then some .sessionActive
  else if needsSample i && !s.rawValid then some .noSample
  else if needsTfine i && !s.tfValid then some .noTfine
  else none

/-- The device is ready for a status byte when the bits `meas` and `upd` are 0 (R149). -/
def readyAt (meas upd : Nat) (b : Byte) : Bool := !b.getLsbD meas && !b.getLsbD upd

/-- Readiness at the spec's bit positions (R91, R149). -/
def deviceReady (b : Byte) : Bool := readyAt Config.statusMeasBit Config.statusUpdBit b

/-- A handle is valid exactly while the session is live and the generation is its number (R33). -/
def handleValid (s : State) (h : BitVec 32) : Bool := s.sessionActive && s.sessionGen == h

end Sys2Proof.Machine
end

