-- ==== Sys2Proof/Machine/Operands.lean ====
section
/-! DEFINITION. The operand forms: register bytes the block writes (spec/41_mode_control.md R142, R143, R145, R90),
operand conversion into an s32 or s64 context (43_compensation.md R191), the 16-bit assembly of R64 and R124, the
clamp of R11. -/

namespace Sys2Proof.Machine

/-! ## Bytes written to the device -/

/-- CTRL_HUM: `zext_8(osrs_h)` (R90, R142). -/
def ctrlHumByte (oh : BitVec 3) : Byte := oh.setWidth 8

/-- CTRL_MEAS: `(osrs_t << 5) | (osrs_p << 2) | m` (R92, R142, R143). -/
def ctrlMeasByte (ot op : BitVec 3) (m : BitVec 2) : Byte :=
  (ot.setWidth 8 <<< 5) ||| (op.setWidth 8 <<< 2) ||| m.setWidth 8

/-- `ctrl_meas(m)` from the block's own records (R143). -/
def ctrlMeas (s : State) (m : BitVec 2) : Byte := ctrlMeasByte s.osrsT s.osrsP m

/-- CONFIG: `(SB << 5) | CONFIG_LOW` (R93, R145). -/
def configByte (sb : BitVec 3) : Byte := (sb.setWidth 8 <<< 5) ||| Config.configLow

/-- Mode codes as the device numbers them (R30, R92). -/
def modeSleep : BitVec 2 := 0
/-- Forced (R30). -/
def modeForced : BitVec 2 := 1
/-- Normal (R30). -/
def modeNormal : BitVec 2 := 3

/-! ## Assembly and conversion -/

/-- A little-endian pair, low byte first (R64, R124). -/
def le16 (lo hi : Byte) : BitVec 16 := lo.setWidth 16 ||| (hi.setWidth 16 <<< 8)

/-- `{x, y, z}` and `{x, y}` of R180: the first byte is the most significant. -/
def be24 (x y z : Byte) : BitVec 24 := (x.setWidth 24 <<< 16) ||| (y.setWidth 24 <<< 8) ||| z.setWidth 24
/-- The two-byte form of R180. -/
def be16 (x y : Byte) : BitVec 16 := (x.setWidth 16 <<< 8) ||| y.setWidth 16

/-- `zext` into a context of `n` bits (R8, R191). -/
def zext {w : Nat} (n : Nat) (v : BitVec w) : BitVec n := v.setWidth n

/-- `sext` into a context of `n` bits (R8, R191). -/
def sext {w : Nat} (n : Nat) (v : BitVec w) : BitVec n := v.signExtend n

/-- H3 in the s32 context: zero extended, or sign extended when CAL_H3_SIGNED (R123, R125, R191). -/
def h3Operand (signed : Bool) (h3 : Byte) : BitVec 32 := if signed then sext 32 h3 else zext 32 h3

/-- `x >> k`, arithmetic (R9). -/
def sar {w : Nat} (x : BitVec w) (k : Nat) : BitVec w := x.sshiftRight k

/-- `clamp(x, lo, hi)` of signed values (R11). -/
def clampS {w : Nat} (x lo hi : BitVec w) : BitVec w := if x.slt lo then lo else if hi.slt x then hi else x

end Sys2Proof.Machine
end

