-- ==== Sys2Proof/Machine/Ops.lean ====
section
/-! DEFINITION. The shared operations: the interactions with the environment (spec/00_scope.md R12), ending a command
(R12, R37; the block's only "exception entry", 60_exceptions.md R242), the pre-checked body of a command (R231), and
taking a command from the port (R36). -/

namespace Sys2Proof.Machine

/-! ## The transport (R12, R62) -/

/-- The success flag of the next answer: the next of `answers`, or a free value where there is none (log 1). -/
def answerOk (s : State) : Bool :=
  match s.answers with
  | a :: _ => a.ok
  | [] => Config.transportOk s.draws

/-- Byte `i` of the next answer; a byte that `answers` does not hold is a free value (log 1). -/
def answerByte (s : State) (i : Nat) : Byte :=
  match s.answers with
  | a :: _ => a.bytes.getD i (Config.transportByte s.draws i)
  | [] => Config.transportByte s.draws i

/-- The `n` bytes of the next answer. -/
def answerBytes (n : Nat) (s : State) : Vector Byte n := Vector.ofFn fun i => answerByte s i

/-- The next answer is drawn, and the interaction stands in the trace. -/
def drawn (e : Event) (s : State) : State :=
  { s with answers := s.answers.tail, draws := s.draws + 1, trace := s.trace ++ [e] }

/-- What a `BusRead` gives: the flag, the bytes (meaningless when the flag is false), the state after. -/
structure ReadReply (n : Nat) where
  ok : Bool
  bytes : Vector Byte n
  after : State

/-- What a `BusWrite` gives. -/
structure WriteReply where
  ok : Bool
  after : State

/-- The trace event of a read. -/
def readEvent (addr : Byte) (n : Nat) (s : State) : Event :=
  .read addr n (answerOk s) (if answerOk s then (answerBytes n s).toList else [])

/-- `BusRead(addr, n)` (R12): one transaction, one answer drawn. -/
def busRead (addr : Byte) (n : Nat) (s : State) : ReadReply n :=
  ⟨answerOk s, answerBytes n s, drawn (readEvent addr n s) s⟩

/-- `BusWrite(addr, v)` (R12). -/
def busWrite (addr v : Byte) (s : State) : WriteReply := ⟨answerOk s, drawn (.write addr v (answerOk s)) s⟩

/-! ## The delay service and the scheduler (R12): they always return, so only the trace shows them -/

/-- An interaction that draws no answer. -/
def emit (e : Event) (s : State) : State := { s with trace := s.trace ++ [e] }

/-- `Delay(d)`. -/
def delay (d : BitVec 16) (s : State) : State := emit (.delay d) s
/-- `SessionCreate(sb)`. -/
def sessionCreate (sb : BitVec 3) (s : State) : State := emit (.sessionCreate sb) s
/-- `SessionRelease()`. -/
def sessionRelease (s : State) : State := emit .sessionRelease s

/-! ## Named updates: the assignments `S.f <- v` of the command rules, each once -/

/-- `S.cal_buf <- buf` (R121). -/
def setCalBuf (buf : Vector Byte 33) (s : State) : State := { s with calBuf := buf }
/-- `open <- 0; raw_valid <- 0; tf_valid <- 0` (R121, R148). -/
def clearValidity (s : State) : State := { s with isOpen := false, rawValid := false, tfValid := false }
/-- `S.osrs_h <- OH` (R142). -/
def setOsrsH (oh : BitVec 3) (s : State) : State := { s with osrsH := oh }
/-- `S.osrs_t <- OT; S.osrs_p <- OP` (R142). -/
def setOsrsTP (ot op : BitVec 3) (s : State) : State := { s with osrsT := ot, osrsP := op }
/-- `S.sb <- SB` (R144). -/
def setSb (sb : BitVec 3) (s : State) : State := { s with sb := sb }
/-- `S.mode <- m` (R142, R144, R146, R148, R150). -/
def setMode (m : BitVec 2) (s : State) : State := { s with mode := m }
/-- `S.session_gen <- wrapU_32(S.session_gen + 1); S.session_active <- 1` (R144). -/
def startSession (s : State) : State := { s with sessionGen := s.sessionGen + 1, sessionActive := true }
/-- `S.session_active <- 0` (R146, R148). -/
def endSession (s : State) : State := { s with sessionActive := false }
/-- `S.t_fine <- tf; S.tf_valid <- 1` (R193). -/
def setTFine (tf : BitVec 32) (s : State) : State := { s with tFine := tf, tfValid := true }

/-! ## On the wire (R87): what an event puts on the bus -/

/-- The write payload of a transaction; other events have none. -/
def eventPayload : Event → Option (List Byte)
  | .read a _ _ _ => some [a]
  | .write a v _ => some [a, v]
  | .delay _ | .sessionCreate _ | .sessionRelease => none

/-- The read length of a transaction. -/
def eventReadLen : Event → Option Nat
  | .read _ n _ _ => some n
  | .write _ _ _ => some 0
  | .delay _ | .sessionCreate _ | .sessionRelease => none

/-- The slave a transaction addresses: SLAVE_ADDR, always (R60, R87). -/
def eventSlave : Event → Option Nat
  | .read _ _ _ _ | .write _ _ _ => some Config.slaveAddr
  | .delay _ | .sessionCreate _ | .sessionRelease => none

/-- How long a `Delay` lasts: `d` time units (R12, D4); nothing in the block depends on it. -/
def eventDuration : Event → Option Nat
  | .delay d => some (d.toNat * Config.timeUnit)
  | .read _ _ _ _ | .write _ _ _ | .sessionCreate _ | .sessionRelease => none

/-- The period a `SessionCreate` asks of the scheduler: TIMER_PERIOD(sb) (R12, R98, D16). -/
def eventPeriod : Event → Option Nat
  | .sessionCreate sb => some (Config.timerPeriod sb)
  | .read _ _ _ _ | .write _ _ _ | .delay _ | .sessionRelease => none

/-! ## Ending and beginning a command -/

/-- `finish(code, res, deg)` (R12, R37): STS and RES are latched and the block is IDLE (R36). `raise` of R12 is this
with `deg` 0. There is no other exception entry, and no return from one (R242, R243). -/
def finish (code : OutcomeCode) (res : Word32) (deg : Bool) (s : State) : State :=
  { s with sts := stsWord code deg, res := res, phase := .idle }

/-- A command: the first pre-check that applies ends it with `finish(code, 0, 0)` and no other effect; otherwise its
body runs (R231). -/
def guarded (i : Instr) (body : State → State) (s : State) : State :=
  match preCheck i s with
  | some code => finish code 0 false s
  | none => body s

/-- What an ILLEGAL word does (R83, R232). -/
def illegalWord (s : State) : State := finish .illegal 0 false s

/-- The next word on the port, and the state with it taken (R36). -/
def takeCommand (s : State) : Option (CommandWord × State) :=
  match s.port with
  | [] => none
  | w :: rest => some (w, { s with port := rest })

/-- A word put on the port ahead of what is there, with the block made IDLE so that it is taken next (log 2). -/
def placeCommand (w : CommandWord) (s : State) : State := { s with port := w :: s.port, phase := .idle }

end Sys2Proof.Machine
end

