-- ==== Sys2Proof/Machine/Compensation.lean ====
section
/-! DEFINITION. The Compensation Engine (spec/43_compensation.md R190 to R204): the functions CompT, CompP, CompH and
the commands that apply them. Arithmetic is that of 00_scope.md R9 and R10: `+ - * <<<` of bit vectors wrap at the
context width, `sar` is the arithmetic right shift, `sdiv` truncates and has `MIN / -1 = MIN`. The formulas are the
spec's rules as written there, which the spec marks as general knowledge (G1): UNVERIFIED, log 10. -/

namespace Sys2Proof.Machine

/-! ## Temperature -/

/-- What CompT returns (R192). -/
structure TempResult where
  temp : BitVec 32
  tFine : BitVec 32
deriving DecidableEq, Repr

/-- CompT's `var1` (R192), s32. -/
def tempVar1 (adcT : BitVec 20) (t1 t2 : BitVec 16) : BitVec 32 :=
  sar ((sar (zext 32 adcT) 3 - (zext 32 t1 <<< 1)) * sext 32 t2) 11

/-- CompT's `var2` (R192), s32. -/
def tempVar2 (adcT : BitVec 20) (t1 t3 : BitVec 16) : BitVec 32 :=
  let d := sar (zext 32 adcT) 4 - zext 32 t1
  sar (sar (d * d) 12 * sext 32 t3) 14

/-- `((t_fine * 5) + 128) >> 8` (R192). -/
def tempOfFine (tFine : BitVec 32) : BitVec 32 := sar (tFine * 5#32 + 128#32) 8

/-- `CompT(adc_T, T1, T2, T3)` (R192). -/
def compTemp (adcT : BitVec 20) (t1 t2 t3 : BitVec 16) : TempResult :=
  let tFine := tempVar1 adcT t1 t2 + tempVar2 adcT t1 t3
  ⟨tempOfFine tFine, tFine⟩

/-- COMP_T past its pre-checks (R193). -/
def compTBody (s : State) : State :=
  let r := compTemp s.raw.adcT s.coef.t1 s.coef.t2 s.coef.t3
  finish .ok r.temp false (setTFine r.tFine s)

/-- COMP_T (R193). -/
def execCompT (cb : Bool) (s : State) : Host.Outcome State Fault Refusal := .next (guarded (.compT cb) compTBody s)

/-! ## Pressure -/

/-- What CompP returns (R196, R197). -/
structure PressResult where
  press : BitVec 32
  deg : Bool
deriving DecidableEq, Repr

/-- `var1 = t_fine - 128000`, s64 (R195). -/
def pressBase (tFine : BitVec 32) : BitVec 64 := sext 64 tFine - 128000#64

/-- The first stage's last `var2` (R195). -/
def pressVar2 (c : Coeffs) (tFine : BitVec 32) : BitVec 64 :=
  let v1 := pressBase tFine
  let v2 := v1 * v1 * sext 64 c.p6
  let v2 := v2 + ((v1 * sext 64 c.p5) <<< 17)
  v2 + (sext 64 c.p4 <<< 35)

/-- The first stage's last `var1`, the guarded term (R195, R196). -/
def pressVar1 (c : Coeffs) (tFine : BitVec 32) : BitVec 64 :=
  let v1 := pressBase tFine
  let v1 := sar (v1 * v1 * sext 64 c.p3) 8 + ((v1 * sext 64 c.p2) <<< 12)
  sar (((1#64 <<< 47) + v1) * zext 64 c.p1) 33

/-- The second stage (R197). -/
def pressStage2 (c : Coeffs) (adcP : BitVec 20) (var1 var2 : BitVec 64) : BitVec 32 :=
  let p := 1048576#64 - zext 64 adcP
  let p := (((p <<< 31) - var2) * 3125#64).sdiv var1
  let v1 := sar (sext 64 c.p9 * sar p 13 * sar p 13) 25
  let v2 := sar (sext 64 c.p8 * p) 19
  let p := sar (p + v1 + v2) 8 + (sext 64 c.p7 <<< 4)
  p.setWidth 32

/-- `CompP(adc_P, P1..P9, t_fine)`, with the degenerate guard (R195 to R197). -/
def compPress (c : Coeffs) (adcP : BitVec 20) (tFine : BitVec 32) : PressResult :=
  if pressVar1 c tFine = 0 then ⟨0, true⟩
  else ⟨pressStage2 c adcP (pressVar1 c tFine) (pressVar2 c tFine), false⟩

/-- COMP_P past its pre-checks (R198). -/
def compPBody (s : State) : State :=
  let r := compPress s.coef s.raw.adcP s.tFine
  finish .ok r.press r.deg s

/-- COMP_P (R198). -/
def execCompP (cb : Bool) (s : State) : Host.Outcome State Fault Refusal := .next (guarded (.compP cb) compPBody s)

/-! ## Humidity -/

/-- CompH's first stage, `v = a * b` (R200), s32; `signed` is CAL_H3_SIGNED. -/
def humStage1 (signed : Bool) (c : Coeffs) (adcH : BitVec 16) (tFine : BitVec 32) : BitVec 32 :=
  let v := tFine - 76800#32
  let a := sar ((((zext 32 adcH <<< 14) - (zext 32 c.h4 <<< 20)) - (zext 32 c.h5 * v)) + 16384#32) 15
  let b := sar ((sar (sar (v * sext 32 c.h6) 10 * (sar (v * h3Operand signed c.h3) 11 + 32768#32)) 10 + 2097152#32)
    * sext 32 c.h2 + 8192#32) 14
  a * b

/-- The line before the clamp (R201). -/
def humPreClamp (c : Coeffs) (v : BitVec 32) : BitVec 32 :=
  v - sar (sar (sar v 15 * sar v 15) 7 * zext 32 c.h1) 4

/-- `CompH(adc_H, H1..H6, t_fine)` (R200, R201), with CAL_H3_SIGNED as an argument. -/
def compHumWith (signed : Bool) (c : Coeffs) (adcH : BitVec 16) (tFine : BitVec 32) : BitVec 32 :=
  sar (clampS (humPreClamp c (humStage1 signed c adcH tFine)) 0 Config.humClampMax) 12

/-- CompH at the spec's CAL_H3_SIGNED (R6). -/
def compHum (c : Coeffs) (adcH : BitVec 16) (tFine : BitVec 32) : BitVec 32 :=
  compHumWith Config.calH3Signed c adcH tFine

/-- COMP_H past its pre-checks (R203). -/
def compHBody (s : State) : State := finish .ok (compHum s.coef s.raw.adcH s.tFine) false s

/-- COMP_H (R203). -/
def execCompH (cb : Bool) (s : State) : Host.Outcome State Fault Refusal := .next (guarded (.compH cb) compHBody s)

end Sys2Proof.Machine
end

