-- ==== Sys2Proof/Machine/Calibration.lean ====
section
/-! DEFINITION. The Calibration Store: OPEN and the coefficient decoder (spec/40_calibration.md). -/

namespace Sys2Proof.Machine

/-- The index in `cal_buf` that holds device register `a` (R23). -/
def calIndex (a : Byte) : Option Nat :=
  if 0x88 ≤ a.toNat ∧ a.toNat ≤ 0xA1 then some (a.toNat - 0x88)
  else if 0xE1 ≤ a.toNat ∧ a.toNat ≤ 0xE7 then some (a.toNat - 0xE1 + 26)
  else none

/-- `cal_buf[base..base+n) <- b[0..n)` (R121). -/
def storeBlock {n : Nat} (base : Nat) (b : Vector Byte n) (buf : Vector Byte 33) : Vector Byte 33 :=
  Vector.ofFn fun i => if h : base ≤ i.val ∧ i.val - base < n then b[i.val - base]'h.2 else buf[i]

/-- `Decode`: the table of R123, with R124 (little-endian pairs), R125 (bytes read directly) and R126 (the split
12-bit fields, no sign extension). Byte 24 is not decoded. -/
def decodeCal (b : Vector Byte 33) : Coeffs where
  t1 := le16 b[0] b[1]
  t2 := le16 b[2] b[3]
  t3 := le16 b[4] b[5]
  p1 := le16 b[6] b[7]
  p2 := le16 b[8] b[9]
  p3 := le16 b[10] b[11]
  p4 := le16 b[12] b[13]
  p5 := le16 b[14] b[15]
  p6 := le16 b[16] b[17]
  p7 := le16 b[18] b[19]
  p8 := le16 b[20] b[21]
  p9 := le16 b[22] b[23]
  h1 := b[25]
  h2 := le16 b[26] b[27]
  h3 := b[28]
  h4 := (zext 12 b[29] <<< 4) ||| (zext 12 b[30] &&& 0x00F)
  h5 := (zext 12 b[31] <<< 4) ||| (zext 12 b[30] >>> 4)
  h6 := b[32]

/-- `fail(code, res)` of R121. -/
def openFail (code : OutcomeCode) (res : Word32) (s : State) : State := finish code res false (clearValidity s)

/-- `(T1, ..., H6) <- Decode(S.cal_buf); S.open <- 1; S.raw_valid <- 0; S.tf_valid <- 0` (R121, R122). -/
def loadCoeffs (s : State) : State :=
  { s with coef := decodeCal s.calBuf, isOpen := true, rawValid := false, tfValid := false }

/-- OPEN past X3: the second block is stored, the coefficients are decoded, the block is open (R121). -/
def openDone (b2 : Vector Byte Config.lenCalib26) (s : State) : State :=
  finish .ok (zext 32 Config.expectedId) false
    (loadCoeffs (setCalBuf (storeBlock Config.lenCalib00 b2 s.calBuf) s))

/-- OPEN past the identity check, with the ID byte read: X2 and X3 (R121). -/
def openCalibration (id : Byte) (s : State) : State :=
  let x2 := busRead Config.regCalib00 Config.lenCalib00 s
  if x2.ok then
    let x3 := busRead Config.regCalib26 Config.lenCalib26 (setCalBuf (storeBlock 0 x2.bytes s.calBuf) x2.after)
    if x3.ok then openDone x3.bytes x3.after else openFail .transportError (zext 32 id) x3.after
  else openFail .transportError (zext 32 id) x2.after

/-- OPEN past its pre-checks (R121). -/
def openBody (s : State) : State :=
  let x1 := busRead Config.regId 1 s
  if x1.ok then
    if x1.bytes[0] = Config.expectedId then openCalibration x1.bytes[0] x1.after
    else openFail .identityMismatch (zext 32 x1.bytes[0]) x1.after
  else openFail .transportError 0 x1.after

/-- OPEN (R121). -/
def execOpen (cb : Bool) (s : State) : Host.Outcome State Fault Refusal :=
  .next (guarded (.openCmd cb) openBody s)

end Sys2Proof.Machine
end

