-- ==== Sys2Proof/Machine/Mode.lean ====
section
/-! DEFINITION. The mode state machine's commands TRIGGER_FORCED, START_NORMAL, STOP and CLOSE
(spec/41_mode_control.md R140 to R148). -/

namespace Sys2Proof.Machine

/-- TRIGGER_FORCED past its pre-checks: X4, then X5 (R142). From `mode` 3 with no session it does the same: DEDUCED,
log 6. -/
def triggerForcedBody (ot op oh : BitVec 3) (s : State) : State :=
  let x4 := busWrite Config.regCtrlHum (ctrlHumByte oh) s
  if x4.ok then
    let x5 := busWrite Config.regCtrlMeas (ctrlMeasByte ot op modeForced) (setOsrsH oh x4.after)
    if x5.ok then finish .ok 0 false (setMode modeForced (setOsrsTP ot op x5.after))
    else finish .transportError 0 false x5.after
  else finish .transportError 0 false x4.after

/-- TRIGGER_FORCED (R142). -/
def execTriggerForced (cb : Bool) (ot op oh : BitVec 3) (s : State) : Host.Outcome State Fault Refusal :=
  .next (guarded (.triggerForced cb ot op oh) (triggerForcedBody ot op oh) s)

/-- START_NORMAL past its pre-checks: X6, then X5, then the session (R144). -/
def startNormalBody (sb : BitVec 3) (s : State) : State :=
  let x6 := busWrite Config.regConfig (configByte sb) s
  if x6.ok then
    let x5 := busWrite Config.regCtrlMeas (ctrlMeas s modeNormal) (setSb sb x6.after)
    if x5.ok then
      finish .ok (s.sessionGen + 1) false (startSession (sessionCreate sb (setMode modeNormal x5.after)))
    else finish .transportError 0 false x5.after
  else finish .transportError 0 false x6.after

/-- START_NORMAL (R144). -/
def execStartNormal (cb : Bool) (sb : BitVec 3) (s : State) : Host.Outcome State Fault Refusal :=
  .next (guarded (.startNormal cb sb) (startNormalBody sb) s)

/-- `if ok: S.mode <- 0`, and the outcome of a Sleep write (R146, R148). -/
def sleepOutcome (ok : Bool) (s : State) : State :=
  if ok then finish .ok 0 false (setMode modeSleep s) else finish .transportError 0 false s

/-- STOP past its pre-checks: a no-op with no live session (R146, 90_conflicts.md C4), else the Sleep write and the
release, whatever the write answered. -/
def stopBody (s : State) : State :=
  if s.sessionActive then
    let x5 := busWrite Config.regCtrlMeas (ctrlMeas s modeSleep) s
    sleepOutcome x5.ok (endSession (sessionRelease x5.after))
  else finish .ok 0 false s

/-- STOP (R146). -/
def execStop (cb : Bool) (s : State) : Host.Outcome State Fault Refusal := .next (guarded (.stop cb) stopBody s)

/-- `if S.session_active = 1: { SessionRelease(); S.session_active <- 0 }` (R148). -/
def releaseIfLive (s : State) : State :=
  if s.sessionActive then endSession (sessionRelease s) else s

/-- CLOSE past its pre-checks: a no-op when not open, else sleep-on-close (R148, 90_conflicts.md C3). -/
def closeBody (s : State) : State :=
  if s.isOpen then
    let x5 := busWrite Config.regCtrlMeas (ctrlMeas s modeSleep) s
    sleepOutcome x5.ok (clearValidity (releaseIfLive x5.after))
  else finish .ok 0 false s

/-- CLOSE (R148). -/
def execClose (cb : Bool) (s : State) : Host.Outcome State Fault Refusal := .next (guarded (.closeCmd cb) closeBody s)

end Sys2Proof.Machine
end

