-- ==== Sys2Proof/Machine/RawReader.lean ====
section
/-! DEFINITION. The Raw Reader: the fan-out of the 8-byte burst and READ_RAW (spec/42_raw_reader.md R180 to R182). -/

namespace Sys2Proof.Machine

/-- `FanOut(b[0..8))` (R180): the top 20 bits of two big-endian 24-bit fields, and a big-endian 16-bit field. -/
def fanOut (b : Vector Byte Config.lenData) : Raw where
  adcP := (be24 b[0] b[1] b[2] >>> 4).setWidth 20
  adcT := (be24 b[3] b[4] b[5] >>> 4).setWidth 20
  adcH := be16 b[6] b[7]

/-- A sample is taken: `raw_valid <- 1`, and the old `t_fine` is stale (R181, R150). -/
def takeSample (b : Vector Byte Config.lenData) (s : State) : State :=
  { s with raw := fanOut b, rawValid := true, tfValid := false }

/-- READ_RAW past its pre-checks: X8 (R181). -/
def readRawBody (s : State) : State :=
  let x8 := busRead Config.regData Config.lenData s
  if x8.ok then finish .ok 0 false (takeSample x8.bytes x8.after) else finish .transportError 0 false x8.after

/-- READ_RAW (R181). -/
def execReadRaw (cb : Bool) (s : State) : Host.Outcome State Fault Refusal :=
  .next (guarded (.readRaw cb) readRawBody s)

end Sys2Proof.Machine
end

