-- ==== Sys2Proof/Machine/Poll.lean ====
section
/-! DEFINITION. POLL, the status poller with exponential back-off (spec/41_mode_control.md R149 to R152). One pass of
its loop is one step of the machine; between passes the block is BUSY with the operands of the POLL (R36, log 3), so
that a POLL that never ends (R152) is a run that never becomes IDLE. -/

namespace Sys2Proof.Machine

/-- `min(2 * d, 32768)` of exact integers (R150); the product of 32768 does not fit u16 (DEDUCED, log 3). -/
def nextDelay (d : BitVec 16) : BitVec 16 := BitVec.ofNat 16 (min (2 * d.toNat) Config.pollDMax)

/-- `S.poll_total[31:0]`, the result of POLL on every path (R85). -/
def pollResult (s : State) : Word32 := s.pollTotal.setWidth 32

/-- End a POLL. -/
def pollFinish (code : OutcomeCode) (s : State) : State := finish code (pollResult s) false s

/-- `if S.mode = 1: S.mode <- 0` (R150). -/
def measurementDone (s : State) : State := setMode (if s.mode = modeForced then modeSleep else s.mode) s

/-- `S.poll_reads <- wrapU_32(S.poll_reads + 1)` (R150). -/
def countRead (s : State) : State := { s with pollReads := s.pollReads + 1 }

/-- `S.poll_total <- wrapU_64(S.poll_total + zext_64(S.poll_d))` (R150). -/
def addDelay (s : State) : State := { s with pollTotal := s.pollTotal + zext 64 s.pollD }

/-- `S.poll_d <- min(2 * S.poll_d, 32768)`, and the loop goes on (R150). -/
def loopAgain (rd : Bool) (tmo : BitVec 32) (s : State) : State :=
  { s with pollD := nextDelay s.pollD, phase := .busy rd tmo }

/-- The device is ready: the forced measurement is done, then the pending raw read when RD = 1 (R150). -/
def pollReady (rd : Bool) (s : State) : State :=
  if rd then
    let x8 := busRead Config.regData Config.lenData (measurementDone s)
    if x8.ok then pollFinish .ok (takeSample x8.bytes x8.after) else pollFinish .transportError x8.after
  else pollFinish .ok (measurementDone s)

/-- The device is not ready: wait, add up, end on a timeout (strictly greater) or double the delay and loop (R150). -/
def pollWait (rd : Bool) (tmo : BitVec 32) (s : State) : State :=
  let s1 := addDelay (delay s.pollD s)
  if tmo ≠ 0 ∧ (zext 64 tmo).toNat < s1.pollTotal.toNat then pollFinish .timeout s1 else loopAgain rd tmo s1

/-- One pass of the loop of R150, from its status read X7. -/
def pollPass (rd : Bool) (tmo : BitVec 32) (s : State) : State :=
  let x7 := busRead Config.regStatus 1 s
  if x7.ok then
    if deviceReady x7.bytes[0] then pollReady rd (countRead x7.after) else pollWait rd tmo (countRead x7.after)
  else pollFinish .transportError (countRead x7.after)

/-- `S.poll_d <- 2; S.poll_total <- 0; S.poll_reads <- 0` (R150, R35). -/
def pollStart (s : State) : State :=
  { s with pollD := BitVec.ofNat 16 Config.pollD0, pollTotal := 0, pollReads := 0 }

/-- POLL (R150): the pre-checks, the poll registers, and the first pass of the loop. -/
def execPoll (cb rd : Bool) (tmo : BitVec 32) (s : State) : Host.Outcome State Fault Refusal :=
  .next (guarded (.poll cb rd tmo) (fun s => pollPass rd tmo (pollStart s)) s)

/-- The next pass of the POLL that is running. -/
def continuePoll (rd : Bool) (tmo : BitVec 32) (s : State) : Host.Outcome State Fault Refusal :=
  .next (pollPass rd tmo s)

end Sys2Proof.Machine
end

