-- ==== Sys2Proof/Machine/Dispatch.lean ====
section
/-! DEFINITION. One arm per command of spec/30_encoding.md R82. -/

namespace Sys2Proof.Machine

def exec (i : Instr) (s : State) : Host.Outcome State Fault Refusal :=
  match i with
  | .openCmd cb => Sys2Proof.Machine.execOpen cb s
  | .closeCmd cb => Sys2Proof.Machine.execClose cb s
  | .triggerForced cb ot op oh => Sys2Proof.Machine.execTriggerForced cb ot op oh s
  | .startNormal cb sb => Sys2Proof.Machine.execStartNormal cb sb s
  | .stop cb => Sys2Proof.Machine.execStop cb s
  | .poll cb rd tmo => Sys2Proof.Machine.execPoll cb rd tmo s
  | .readRaw cb => Sys2Proof.Machine.execReadRaw cb s
  | .compT cb => Sys2Proof.Machine.execCompT cb s
  | .compP cb => Sys2Proof.Machine.execCompP cb s
  | .compH cb => Sys2Proof.Machine.execCompH cb s

end Sys2Proof.Machine
end

