-- ==== Sys2Proof/Machine/Step.lean ====
section
/-! DEFINITION. One step of the block (spec/10_state.md R36): BUSY, it goes on with the command that runs; IDLE, it
takes the next command word from the port, and with no word there it stays as it is (log 2). A word that is no
command is ILLEGAL (30_encoding.md R83). -/

namespace Sys2Proof.Machine

/-- One step. -/
def step (s : State) : Host.Outcome State Fault Refusal :=
  match s.phase with
  | .busy rd tmo => continuePoll rd tmo s
  | .idle =>
    match takeCommand s with
    | none => .next s
    | some (w, s1) =>
      match decode w with
      | some i => exec i s1
      | none => .next (illegalWord s1)

/-- `s` with the word `w` on the port, to be taken by the very next step (log 2). A command is 64 bits (R101). -/
def State.withFetchWord (s : State) (nbits w : Nat) : State :=
  placeCommand (BitVec.ofNat 64 (w % 2 ^ nbits)) s

end Sys2Proof.Machine
end

