-- ==== Sys2Proof/Machine/Assembler.lean ====
section
/-! DEFINITION. The assembler notation of spec/30_encoding.md R102 and the pseudo-instructions of R103: one line gives
the commands it stands for, or none where it is no line of the notation. What R102 leaves open is DESIGN CHOICE, log
12. -/

namespace Sys2Proof.Assembler

/-- The words of a line, cut at spaces. -/
def splitWords : List Char → List (List Char)
  | [] => []
  | ' ' :: rest => splitWords rest
  | c :: rest =>
    match rest with
    | [] => [[c]]
    | ' ' :: _ => [c] :: splitWords rest
    | _ :: _ =>
      match splitWords rest with
      | [] => [[c]]
      | w :: ws => (c :: w) :: ws

/-- A digit's value. -/
def digit (c : Char) : Option Nat :=
  if '0' ≤ c ∧ c ≤ '9' then some (c.toNat - '0'.toNat)
  else if 'a' ≤ c ∧ c ≤ 'f' then some (c.toNat - 'a'.toNat + 10)
  else if 'A' ≤ c ∧ c ≤ 'F' then some (c.toNat - 'A'.toNat + 10)
  else none

/-- Digits in a base, after the value read so far. -/
def digits (base acc : Nat) : List Char → Option Nat
  | [] => some acc
  | c :: rest =>
    match digit c with
    | some d => if d < base then digits base (acc * base + d) rest else none
    | none => none

/-- A decimal or `0x` number (R102). -/
def number : List Char → Option Nat
  | [] => none
  | '0' :: 'x' :: c :: rest => digits 16 0 (c :: rest)
  | c :: rest => digits 10 0 (c :: rest)

/-- An operand `name=value`, cut at its first `=`. -/
def operandOf : List Char → Option (List Char × Nat)
  | [] => none
  | '=' :: rest => (number rest).map fun v => ([], v)
  | c :: rest => (operandOf rest).map fun o => (c :: o.1, o.2)

/-- The operands of a line and whether it ends in `@cb`; none where a word is neither. -/
def tail : List (List Char) → Option (List (List Char × Nat) × Bool)
  | [] => some ([], false)
  | w :: rest =>
    if w = "@cb".toList then (if rest.isEmpty then some ([], true) else none)
    else
      match operandOf w, tail rest with
      | some o, some (os, cb) => some (o :: os, cb)
      | _, _ => none

/-- The value of an operand: at most once, at most `limit`, `dflt` where the line leaves it out. -/
def value (name : String) (limit : Nat) (dflt : Option Nat) (os : List (List Char × Nat)) : Option Nat :=
  match os.filter fun o => o.1 == name.toList with
  | [] => dflt
  | [o] => if o.2 ≤ limit then some o.2 else none
  | _ => none

/-- Every operand has one of these names. -/
def only (names : List String) (os : List (List Char × Nat)) : Bool :=
  os.all fun o => names.any fun n => n.toList == o.1

/-- A command with no operand. -/
def plain (os : List (List Char × Nat)) (i : Instr) : Option (List Instr) := if os.isEmpty then some [i] else none

/-- The operands t, p, h: each 0..7, default 0, which R102 states for TRIGGER_FORCED; on MEASURE the default is DESIGN
CHOICE (R103 gives none), log 12. -/
def osrs (os : List (List Char × Nat)) : Option (BitVec 3 × BitVec 3 × BitVec 3) :=
  match value "t" 7 (some 0) os, value "p" 7 (some 0) os, value "h" 7 (some 0) os with
  | some t, some p, some h => some (BitVec.ofNat 3 t, BitVec.ofNat 3 p, BitVec.ofNat 3 h)
  | _, _, _ => none

/-- The operand tmo: 0..2^32-1, default 0, which R102 states for POLL; on POLL.R and MEASURE the default is DESIGN CHOICE
(R102 and R103 give none), log 12. -/
def tmo (os : List (List Char × Nat)) : Option (BitVec 32) :=
  (value "tmo" (2 ^ 32 - 1) (some 0) os).map (BitVec.ofNat 32)

/-- The commands of a mnemonic with its operands. MEASURE, which R103 writes with all of t, p, h and tmo, takes each one
that its line leaves out as 0: DESIGN CHOICE, log 12. -/
def commands (name : List Char) (os : List (List Char × Nat)) (cb : Bool) : Option (List Instr) :=
  if name = "OPEN".toList then plain os (.openCmd cb)
  else if name = "CLOSE".toList then plain os (.closeCmd cb)
  else if name = "STOP".toList then plain os (.stop cb)
  else if name = "READ_RAW".toList then plain os (.readRaw cb)
  else if name = "COMP_T".toList then plain os (.compT cb)
  else if name = "COMP_P".toList then plain os (.compP cb)
  else if name = "COMP_H".toList then plain os (.compH cb)
  else if name = "TRIGGER_FORCED".toList ∧ only ["t", "p", "h"] os then
    (osrs os).map fun o => [.triggerForced cb o.1 o.2.1 o.2.2]
  else if name = "START_NORMAL".toList ∧ only ["sb"] os then
    (value "sb" 7 none os).map fun v => [.startNormal cb (BitVec.ofNat 3 v)]
  else if name = "POLL".toList ∧ only ["tmo"] os then (tmo os).map fun n => [.poll cb false n]
  else if name = "POLL.R".toList ∧ only ["tmo"] os then (tmo os).map fun n => [.poll cb true n]
  else if name = "MEASURE".toList ∧ only ["t", "p", "h", "tmo"] os ∧ cb = false then
    match osrs os, tmo os with
    | some o, some n => some (pseudoMeasure o.1 o.2.1 o.2.2 n)
    | _, _ => none
  else if name = "COMPENSATE".toList ∧ cb = false then
    if os.isEmpty then some pseudoCompensate else none
  else none

/-- The commands of one line: `MNEMONIC [operand=value ...] [@cb]` (R102), pseudo-instructions expanded (R103). -/
def line (text : String) : Option (List Instr) :=
  match splitWords text.toList with
  | [] => none
  | name :: rest =>
    match tail rest with
    | some (os, cb) => commands name os cb
    | none => none

/-- The command words of one line. -/
def words (text : String) : Option (List CommandWord) := (line text).map fun is => is.map encode

end Sys2Proof.Assembler
end

