-- ==== Sys2Proof/Safety/Reference.lean ====
section
/-! DEFINITION. The arithmetic of spec/00_scope.md R8 to R11 on exact integers, and the formulas of
43_compensation.md written with it operation by operation: each `+`, `-`, `*`, `<<` computes exactly and then wraps to
the context, `>>` is the floor of an exact quotient. The machine does not use this file; statements compare it with
the machine's bit-vector engine. -/

namespace Sys2Proof.Reference

/-- `wrapS_32(x)` (R8): the s32 value congruent to `x` modulo 2^32. -/
def wrap32 (x : Int) : Int := x.bmod (2 ^ 32)
/-- `wrapS_64(x)` (R8). -/
def wrap64 (x : Int) : Int := x.bmod (2 ^ 64)
/-- `x >> k = floor(x / 2^k)` (R9); `/` of Lean's integers by a positive divisor is the floor. -/
def shr (x : Int) (k : Nat) : Int := x / 2 ^ k
/-- `clamp(x, lo, hi)` (R11). -/
def clamp (x lo hi : Int) : Int := if x < lo then lo else if x > hi then hi else x
/-- `trunc(a / b)` (R10): rounded toward zero, before the wrap. -/
def truncDiv (a b : Int) : Int := a.tdiv b

/-! ## Temperature (R192), s32 -/

/-- `var1`. -/
def tempVar1 (adcT t1 t2 : Int) : Int :=
  shr (wrap32 (wrap32 (shr adcT 3 - wrap32 (t1 * 2 ^ 1)) * t2)) 11

/-- `var2`. -/
def tempVar2 (adcT t1 t3 : Int) : Int :=
  shr (wrap32 (shr (wrap32 (wrap32 (shr adcT 4 - t1) * wrap32 (shr adcT 4 - t1))) 12 * t3)) 14

/-- `t_fine`. -/
def tFine (adcT t1 t2 t3 : Int) : Int := wrap32 (tempVar1 adcT t1 t2 + tempVar2 adcT t1 t3)

/-- `T`, from `t_fine`. -/
def temp (tf : Int) : Int := shr (wrap32 (wrap32 (tf * 5) + 128)) 8

/-! ## Pressure (R195 to R197), s64 -/

/-- The first line's `var1`. -/
def pressBase (tf : Int) : Int := wrap64 (tf - 128000)

/-- The first stage's last `var2`. -/
def pressVar2 (c : Machine.Coeffs) (tf : Int) : Int :=
  let v1 := pressBase tf
  let v2 := wrap64 (wrap64 (v1 * v1) * c.p6.toInt)
  let v2 := wrap64 (v2 + wrap64 (wrap64 (v1 * c.p5.toInt) * 2 ^ 17))
  wrap64 (v2 + wrap64 (c.p4.toInt * 2 ^ 35))

/-- The first stage's last `var1`, the guarded term. -/
def pressVar1 (c : Machine.Coeffs) (tf : Int) : Int :=
  let v1 := pressBase tf
  let v1 := wrap64 (shr (wrap64 (wrap64 (v1 * v1) * c.p3.toInt)) 8 + wrap64 (wrap64 (v1 * c.p2.toInt) * 2 ^ 12))
  shr (wrap64 (wrap64 (wrap64 (1 * 2 ^ 47) + v1) * c.p1.toNat)) 33

/-- The last `p` of the second stage, before `wrapU_32`; evaluated only when `var1 != 0`. -/
def pressLast (c : Machine.Coeffs) (adcP : Nat) (var1 var2 : Int) : Int :=
  let p := wrap64 (1048576 - adcP)
  let p := wrap64 (truncDiv (wrap64 (wrap64 (wrap64 (p * 2 ^ 31) - var2) * 3125)) var1)
  let v1 := shr (wrap64 (wrap64 (c.p9.toInt * shr p 13) * shr p 13)) 25
  let v2 := shr (wrap64 (c.p8.toInt * p)) 19
  wrap64 (shr (wrap64 (wrap64 (p + v1) + v2)) 8 + wrap64 (c.p7.toInt * 2 ^ 4))

/-! ## Humidity (R200, R201), s32 -/

/-- The first stage: `a * b`. H3 enters as `h3`, unsigned or signed by CAL_H3_SIGNED (R125). -/
def humStage1 (c : Machine.Coeffs) (h3 : Int) (adcH : Nat) (tf : Int) : Int :=
  let v := wrap32 (tf - 76800)
  let a := shr (wrap32 (wrap32 (wrap32 (wrap32 (adcH * 2 ^ 14) - wrap32 (c.h4.toNat * 2 ^ 20))
    - wrap32 (c.h5.toNat * v)) + 16384)) 15
  let b := shr (wrap32 (wrap32 (wrap32 (shr (wrap32 (shr (wrap32 (v * c.h6.toInt)) 10
    * wrap32 (shr (wrap32 (v * h3)) 11 + 32768))) 10 + 2097152) * c.h2.toInt) + 8192)) 14
  wrap32 (a * b)

/-- The line before the clamp. -/
def humPreClamp (c : Machine.Coeffs) (v : Int) : Int :=
  wrap32 (v - shr (wrap32 (shr (wrap32 (shr v 15 * shr v 15)) 7 * c.h1.toNat)) 4)

/-- `H`. -/
def hum (c : Machine.Coeffs) (h3 : Int) (adcH : Nat) (tf : Int) : Int :=
  shr (clamp (humPreClamp c (humStage1 c h3 adcH tf)) 0 419430400) 12

/-! ## The delay schedule (41_mode_control.md R151) -/

/-- `d_k = min(2^k, 32768)`. -/
def pollDelay (k : Nat) : Nat := min (2 ^ k) 32768

/-- `poll_total` after `k` delays. -/
def pollTotal (k : Nat) : Nat := if k ≤ 15 then 2 ^ (k + 1) - 2 else 65534 + 32768 * (k - 15)

/-- The events of `k` unready passes of one POLL: each a status read of byte `b j` and its delay. -/
def pollEvents (b : Nat → Byte) : Nat → List Machine.Event
  | 0 => []
  | k + 1 => pollEvents b k ++ [.read 0xF3 1 true [b k], .delay (BitVec.ofNat 16 (pollDelay (k + 1)))]

end Sys2Proof.Reference
end

