-- ==== Sys2Proof/Safety.lean ====
section
/-! DEFINITION. What a safe run keeps, and the terms the statements use: the upcoming answers of the transport, the
invariant of spec/10_state.md, the transactions of 20_memory.md R61, a list of commands run in turn. -/

namespace Sys2Proof.Machine

/-! ## The answers to come -/

/-- `s` with `j` answers passed over. -/
def passOver (j : Nat) (s : State) : State := { s with answers := s.answers.drop j, draws := s.draws + j }

/-- The success flag of the `j`-th answer to come, counted from 0. -/
def okAt (s : State) (j : Nat) : Bool := answerOk (passOver j s)

/-- Byte `i` of the `j`-th answer to come. -/
def byteAt (s : State) (j i : Nat) : Byte := answerByte (passOver j s) i

/-- The `n` bytes of the `j`-th answer to come. -/
def bytesAt (n : Nat) (s : State) (j : Nat) : Vector Byte n := Vector.ofFn fun i => byteAt s j i

/-- `s` after `n` answers are drawn and the events `evs` stand in the trace. -/
def consumed (n : Nat) (evs : List Event) (s : State) : State :=
  { s with answers := s.answers.drop n, draws := s.draws + n, trace := s.trace ++ evs }

/-- `s` with STS and RES latched and the block IDLE (R37). -/
def ended (sts : BitVec 8) (res : BitVec 32) (s : State) : State := { s with sts := sts, res := res, phase := .idle }

/-- `cal_buf` once the next answer but one has filled its first 26 bytes (R23, R121). -/
def calAfterX2 (s : State) : Vector Byte 33 :=
  Vector.ofFn fun i => if i.val < 26 then byteAt s 1 i.val else s.calBuf[i]

/-- `cal_buf` once the next answers but one and but two have filled it (R23, R121). -/
def calAfterX3 (s : State) : Vector Byte 33 :=
  Vector.ofFn fun i => if i.val < 26 then byteAt s 1 i.val else byteAt s 2 (i.val - 26)

/-- The next `k` answers are the status byte of a device that is not ready (R149). -/
def unreadyFor (k : Nat) (s : State) : Prop := ∀ j < k, okAt s j = true ∧ byteAt s j 0 &&& 0x05 ≠ 0

/-! ## The invariant -/

/-- What every step keeps (10_state.md). -/
structure Consistent (s : State) : Prop where
  /-- R30: the value 2 is never held. -/
  modeLegal : s.mode ≠ 2
  /-- R25: while open, the coefficients are those of the bytes held. -/
  coefDecoded : s.isOpen = true → s.coef = decodeCal s.calBuf
  /-- R27: a sample read since the last successful OPEN. -/
  rawOpen : s.rawValid = true → s.isOpen = true
  /-- R29: `tf_valid = 1` implies `raw_valid = 1` (and so `open = 1`). -/
  tfRaw : s.tfValid = true → s.rawValid = true
  /-- R29: `t_fine` is that of the raw fields and the coefficients as they now stand. -/
  tfFresh : s.tfValid = true → s.tFine = (compTemp s.raw.adcT s.coef.t1 s.coef.t2 s.coef.t3).tFine
  /-- R34: a live session means Normal mode and open. -/
  session : s.sessionActive = true → s.mode = 3 ∧ s.isOpen = true
  /-- R150: a POLL that runs passed the check of `open`. -/
  busyOpen : s.phase ≠ .idle → s.isOpen = true
  /-- R37: `STS[7:5]` read as 0. -/
  stsHigh : s.sts.extractLsb' 5 3 = 0
  /-- R230: codes 10 to 15 are never produced. -/
  stsCode : (s.sts.extractLsb' 0 4).toNat ≤ 9
  /-- R241: DEG is set only with the outcome OK and the result 0. -/
  stsDeg : s.sts.getLsbD 4 = true → s.sts = 0x10 ∧ s.res = 0

/-- Where a running POLL stands: after `k` passes, its registers are those of the schedule of R151, and with a
timeout the total has not passed it. -/
def PollProgress (s : State) : Prop :=
  ∀ rd tmo, s.phase = .busy rd tmo →
    ∃ k, 1 ≤ k ∧ s.pollD.toNat = Reference.pollDelay (k + 1) ∧
      s.pollTotal.toNat = Reference.pollTotal k % 2 ^ 64 ∧ s.pollReads.toNat = k % 2 ^ 32 ∧
      (tmo ≠ 0 → Reference.pollTotal k ≤ tmo.toNat)

/-! ## The transactions of R61 -/

/-- The rows X1 to X8 of R61: the primitive, the address and the length. -/
inductive Transaction : Event → Prop where
  | x1 (ok bs) : Transaction (.read 0xD0 1 ok bs)
  | x2 (ok bs) : Transaction (.read 0x88 26 ok bs)
  | x3 (ok bs) : Transaction (.read 0xE1 7 ok bs)
  | x4 (v ok) : Transaction (.write 0xF2 v ok)
  | x5 (v ok) : Transaction (.write 0xF4 v ok)
  | x6 (v ok) : Transaction (.write 0xF5 v ok)
  | x7 (ok bs) : Transaction (.read 0xF3 1 ok bs)
  | x8 (ok bs) : Transaction (.read 0xF7 8 ok bs)

/-- What each command may put in the trace: its rows of R61's "issued by" column, and the other interactions its rule
lists. -/
def mayIssue : Instr → Event → Prop
  | .openCmd _, e => (∃ ok bs, e = .read 0xD0 1 ok bs) ∨ (∃ ok bs, e = .read 0x88 26 ok bs) ∨
      ∃ ok bs, e = .read 0xE1 7 ok bs
  | .closeCmd _, e => (∃ v ok, e = .write 0xF4 v ok) ∨ e = .sessionRelease
  | .triggerForced _ _ _ _, e => (∃ v ok, e = .write 0xF2 v ok) ∨ ∃ v ok, e = .write 0xF4 v ok
  | .startNormal _ sb, e => (∃ v ok, e = .write 0xF5 v ok) ∨ (∃ v ok, e = .write 0xF4 v ok) ∨ e = .sessionCreate sb
  | .stop _, e => (∃ v ok, e = .write 0xF4 v ok) ∨ e = .sessionRelease
  | .poll _ rd _, e => (∃ ok bs, e = .read 0xF3 1 ok bs) ∨ (rd = true ∧ ∃ ok bs, e = .read 0xF7 8 ok bs) ∨
      ∃ d, e = .delay d
  | .readRaw _, e => ∃ ok bs, e = .read 0xF7 8 ok bs
  | .compT _, _ => False
  | .compP _, _ => False
  | .compH _, _ => False

/-! ## Runs -/

/-- Commands executed in turn, each from the state the one before it left. -/
def execAll : List Instr → State → Host.Outcome State Fault Refusal
  | [], s => .next s
  | i :: rest, s =>
    match exec i s with
    | .next t => execAll rest t
    | .fault r => .fault r
    | .refused r => .refused r

/-- COMP_P or COMP_H. -/
def usesTfine (i : Instr) : Prop := ∃ cb, i = .compP cb ∨ i = .compH cb

end Sys2Proof.Machine
end

