-- ==== Sys2Proof/Certificates/Slice0/Obligations.lean ====
section
/-! DEFINITION. The statements about the block, for the provers. Each docstring names the rules of spec/ it comes from.
`ended sts res s` is `s` with STS and RES latched and the block IDLE; `consumed n evs s` is `s` with `n` answers drawn
and the events `evs` in the trace; `okAt s j` and `byteAt s j i` are the `j`-th answer the transport will give. An
equation `exec i s = .next { … }` says the whole next state, so every field it does not name is unchanged. -/

open Sys2Proof Sys2Proof.Machine

/-! ## Encoding -/

/-- Decoding the word of a command gives the command back, every operand at every value (R80, R82, R102). -/
def Obligations.DecodeOfEncodeIsTheCommand : Prop := ∀ i : Instr, decode (encode i) = some i

/-- Each word has one meaning: a word that decodes to a command is the word of that command (R80, R82). -/
def Obligations.EncodeOfDecodeIsTheWord : Prop := ∀ (w : CommandWord) (i : Instr), decode w = some i → encode i = w

/-- R83: a word is a command exactly when it matches a row of the table by mask, and then exactly one row, its own;
any other word is ILLEGAL and ends with `finish(ILLEGAL, 0, 0)` and no other effect. -/
def Obligations.DecodingFollowsTheMaskTable : Prop :=
  (∀ w : CommandWord, decode w = none ↔ ∀ r ∈ opcodeTable, w &&& ~~~r.allowed ≠ r.opc.setWidth 64) ∧
  (∀ (w : CommandWord) (i : Instr), decode w = some i →
    ∃ r ∈ opcodeTable, r.mnemonic = i.mnemonic ∧ w &&& ~~~r.allowed = r.opc.setWidth 64 ∧
      ∀ r' ∈ opcodeTable, w &&& ~~~r'.allowed = r'.opc.setWidth 64 → r' = r) ∧
  (∀ (s : State) (w : CommandWord) (rest : List CommandWord), s.phase = .idle → s.port = w :: rest →
    decode w = none → step s = .next { s with port := rest, sts := 0x08, res := 0 })

/-- Words spelled out from the fields of R80 decode to the command they stand for, one per family, and reserved
opcodes, reserved bits and stray fields decode to none (R80, R82, R100). -/
def Obligations.SpelledWordsDecode : Prop :=
  decode 0x0000000000000001 = some (.openCmd false) ∧
  decode 0x0000000000004903 = some (.triggerForced false 1 1 1) ∧
  decode 0x0000000000006A03 = some (.triggerForced false 2 5 1) ∧
  decode 0x00000000000A0004 = some (.startNormal false 5) ∧
  decode 0x0000006400000026 = some (.poll false true 100) ∧
  decode 0x8000000000000006 = some (.poll false false 0x80000000) ∧
  decode 0x0000000000000007 = some (.readRaw false) ∧
  decode 0x0000000000000018 = some (.compT true) ∧
  decode 0x0000000000000000 = none ∧ decode 0x000000000000000F = none ∧
  decode 0x0000000000000041 = none ∧ decode 0x0000000080000001 = none ∧
  decode 0x0000000000000028 = none ∧ decode 0x0000000000020003 = none

/-! ## The step -/

/-- R36: in IDLE, a word on the port that decodes to a command is taken and the command is executed, in the state with
that word taken. -/
def Obligations.StepRunsTheDecodedCommand : Prop :=
  ∀ (s : State) (w : CommandWord) (rest : List CommandWord) (i : Instr), s.phase = .idle → s.port = w :: rest →
    decode w = some i → step s = exec i { s with port := rest }

/-- R36: a command is taken only in IDLE. A BUSY block leaves the port alone; an IDLE block with an empty port stays as
it is (the second clause is the model's choice, log 2). -/
def Obligations.OnlyAnIdleBlockTakesACommand : Prop :=
  (∀ (s : State) (rd : Bool) (tmo : BitVec 32), s.phase = .busy rd tmo →
    ∃ t, step s = .next t ∧ t.port = s.port) ∧
  (∀ s : State, s.phase = .idle → s.port = [] → step s = .next s)

/-- No state stops the block: every abnormal condition is an outcome (R83 "decoding is total", R242; log 8). -/
def Obligations.EveryStepAnswersANextState : Prop := ∀ s : State, ∃ t, step s = .next t

/-! ## Reset and the invariant -/

/-- R260: every field that has a reset value has it, and reset issues no transaction. -/
def Obligations.ResetStateIsAsStated : Prop :=
  let r := State.reset
  r.isOpen = false ∧ r.rawValid = false ∧ r.tfValid = false ∧ r.sessionActive = false ∧ r.mode = 0 ∧ r.sb = 0 ∧
    r.osrsT = 0 ∧ r.osrsP = 0 ∧ r.osrsH = 0 ∧ r.sessionGen = 0 ∧ r.phase = .idle ∧ r.sts = 0x00 ∧ r.res = 0 ∧
    r.trace = []

/-- The invariant of 10_state.md and the progress of a running POLL hold at reset. -/
def Obligations.ResetMeetsTheInvariant : Prop := Consistent State.reset ∧ PollProgress State.reset

/-- Every step keeps the invariant: R25 (decoded coefficients), R27, R29 (`t_fine` fresh), R30 (legal mode), R34 (live
session), R37 and R230 (status word), R241 (DEG). -/
def Obligations.StepKeepsTheInvariant : Prop := ∀ s t : State, Consistent s → step s = .next t → Consistent t

/-- Every step keeps the poll registers of a running POLL on the schedule of R151, and its total within the timeout.
(One pass is one step: the model's reading, log 3.) -/
def Obligations.StepKeepsThePollOnSchedule : Prop :=
  ∀ s t : State, PollProgress s → step s = .next t → PollProgress t

/-! ## Pre-checks (60_exceptions.md) -/

/-- R231 items 2 to 6: the first check that applies, in this order, ends the command with its code, result 0 and no
other effect. -/
def Obligations.PreChecksApplyInOrder : Prop :=
  ∀ (i : Instr) (s : State),
    let bus := ∃ ot op oh sb rd tmo, i ∈ ([.openCmd true, .closeCmd true, .triggerForced true ot op oh,
      .startNormal true sb, .stop true, .poll true rd tmo, .readRaw true] : List Instr)
    let gated := ∃ cb ot op oh sb rd tmo, i ∈ ([.triggerForced cb ot op oh, .startNormal cb sb, .poll cb rd tmo,
      .readRaw cb, .compT cb, .compP cb, .compH cb] : List Instr)
    let single := ∃ cb ot op oh sb, i ∈ ([.openCmd cb, .triggerForced cb ot op oh, .startNormal cb sb] : List Instr)
    let sample := ∃ cb, i = .compT cb
    (bus → exec i s = .next (ended 0x09 0 s)) ∧
    (¬bus → gated → s.isOpen = false → exec i s = .next (ended 0x04 0 s)) ∧
    (¬bus → (gated → s.isOpen = true) → single → s.sessionActive = true → exec i s = .next (ended 0x07 0 s)) ∧
    (¬bus → (gated → s.isOpen = true) → sample → s.rawValid = false → exec i s = .next (ended 0x05 0 s)) ∧
    (¬bus → (gated → s.isOpen = true) → usesTfine i → s.tfValid = false → exec i s = .next (ended 0x06 0 s))

/-- R232, R100: a word with a reserved opcode, a reserved bit set, or a field set that its command does not allow (RD
and TMO but on POLL, OT, OP and OH but on TRIGGER_FORCED, SB but on START_NORMAL) changes STS and RES only and issues no
transaction. (The word leaves the port, which is the model's own field, log 2.) -/
def Obligations.IllegalWordsOnlySetTheOutputs : Prop :=
  ∀ (s : State) (w : CommandWord) (rest : List CommandWord), s.phase = .idle → s.port = w :: rest →
    let opc := (w.extractLsb' 0 4).toNat
    (opc = 0 ∨ 11 ≤ opc ∨ w.extractLsb' 6 2 ≠ 0 ∨ w.extractLsb' 20 12 ≠ 0 ∨ (w.getLsbD 5 = true ∧ opc ≠ 6) ∨
      (w.extractLsb' 8 9 ≠ 0 ∧ opc ≠ 3) ∨ (w.extractLsb' 17 3 ≠ 0 ∧ opc ≠ 4) ∨ (w.extractLsb' 32 32 ≠ 0 ∧ opc ≠ 6)) →
    step s = .next { s with port := rest, sts := 0x08, res := 0 }

/-! ## The commands, rule by rule -/

/-- R121: OPEN, every path. -/
def Obligations.OpenFollowsItsRule : Prop :=
  (∀ cb, (encode (.openCmd cb)).extractLsb' 0 4 = 0x1) ∧
  ∀ s : State,
    exec (.openCmd true) s = .next (ended 0x09 0 s) ∧
    (s.sessionActive = true → exec (.openCmd false) s = .next (ended 0x07 0 s)) ∧
    (s.sessionActive = false →
      let id := byteAt s 0 0
      (okAt s 0 = false → exec (.openCmd false) s = .next (ended 0x01 0
        { consumed 1 [.read 0xD0 1 false []] s with isOpen := false, rawValid := false, tfValid := false })) ∧
      (okAt s 0 = true → id ≠ 0x60 → exec (.openCmd false) s = .next (ended 0x02 (id.setWidth 32)
        { consumed 1 [.read 0xD0 1 true [id]] s with isOpen := false, rawValid := false, tfValid := false })) ∧
      (okAt s 0 = true → id = 0x60 → okAt s 1 = false → exec (.openCmd false) s = .next (ended 0x01 0x60
        { consumed 2 [.read 0xD0 1 true [0x60], .read 0x88 26 false []] s with
          isOpen := false, rawValid := false, tfValid := false })) ∧
      (okAt s 0 = true → id = 0x60 → okAt s 1 = true → okAt s 2 = false →
        exec (.openCmd false) s = .next (ended 0x01 0x60
          { consumed 3 [.read 0xD0 1 true [0x60], .read 0x88 26 true (bytesAt 26 s 1).toList, .read 0xE1 7 false []] s
            with calBuf := calAfterX2 s, isOpen := false, rawValid := false, tfValid := false })) ∧
      (okAt s 0 = true → id = 0x60 → okAt s 1 = true → okAt s 2 = true →
        exec (.openCmd false) s = .next (ended 0x00 0x60
          { consumed 3 [.read 0xD0 1 true [0x60], .read 0x88 26 true (bytesAt 26 s 1).toList,
              .read 0xE1 7 true (bytesAt 7 s 2).toList] s
            with calBuf := calAfterX3 s, coef := decodeCal (calAfterX3 s), isOpen := true, rawValid := false,
                 tfValid := false })))

/-- R142: TRIGGER_FORCED, every path, whatever `mode` is. (From mode 3 with no session R140's table lists no row; that R142
holds there is the model's reading, log 6.) -/
def Obligations.TriggerForcedFollowsItsRule : Prop :=
  (∀ cb ot op oh, (encode (.triggerForced cb ot op oh)).extractLsb' 0 4 = 0x3) ∧
  ∀ (s : State) (ot op oh : BitVec 3),
    exec (.triggerForced true ot op oh) s = .next (ended 0x09 0 s) ∧
    (s.isOpen = false → exec (.triggerForced false ot op oh) s = .next (ended 0x04 0 s)) ∧
    (s.isOpen = true → s.sessionActive = true → exec (.triggerForced false ot op oh) s = .next (ended 0x07 0 s)) ∧
    (s.isOpen = true → s.sessionActive = false →
      let hum : Byte := BitVec.ofNat 8 oh.toNat
      let meas : Byte := BitVec.ofNat 8 (32 * ot.toNat + 4 * op.toNat + 1)
      (okAt s 0 = false → exec (.triggerForced false ot op oh) s = .next (ended 0x01 0
        (consumed 1 [.write 0xF2 hum false] s))) ∧
      (okAt s 0 = true → okAt s 1 = false → exec (.triggerForced false ot op oh) s = .next (ended 0x01 0
        { consumed 2 [.write 0xF2 hum true, .write 0xF4 meas false] s with osrsH := oh })) ∧
      (okAt s 0 = true → okAt s 1 = true → exec (.triggerForced false ot op oh) s = .next (ended 0x00 0
        { consumed 2 [.write 0xF2 hum true, .write 0xF4 meas true] s with
          osrsH := oh, osrsT := ot, osrsP := op, mode := 1 })))

/-- R144, R143, R145: START_NORMAL, every path; CONFIG is `32 * SB` (CONFIG_LOW is 0) and CTRL_MEAS is made of the
block's own records. -/
def Obligations.StartNormalFollowsItsRule : Prop :=
  (∀ cb sb, (encode (.startNormal cb sb)).extractLsb' 0 4 = 0x4) ∧
  ∀ (s : State) (sb : BitVec 3),
    exec (.startNormal true sb) s = .next (ended 0x09 0 s) ∧
    (s.isOpen = false → exec (.startNormal false sb) s = .next (ended 0x04 0 s)) ∧
    (s.isOpen = true → s.sessionActive = true → exec (.startNormal false sb) s = .next (ended 0x07 0 s)) ∧
    (s.isOpen = true → s.sessionActive = false →
      let config : Byte := BitVec.ofNat 8 (32 * sb.toNat)
      let meas : Byte := BitVec.ofNat 8 (32 * s.osrsT.toNat + 4 * s.osrsP.toNat + 3)
      (okAt s 0 = false → exec (.startNormal false sb) s = .next (ended 0x01 0
        (consumed 1 [.write 0xF5 config false] s))) ∧
      (okAt s 0 = true → okAt s 1 = false → exec (.startNormal false sb) s = .next (ended 0x01 0
        { consumed 2 [.write 0xF5 config true, .write 0xF4 meas false] s with sb := sb })) ∧
      (okAt s 0 = true → okAt s 1 = true →
        exec (.startNormal false sb) s = .next (ended 0x00 (BitVec.ofNat 32 (s.sessionGen.toNat + 1))
          { consumed 2 [.write 0xF5 config true, .write 0xF4 meas true, .sessionCreate sb] s with
            sb := sb, mode := 3, sessionGen := BitVec.ofNat 32 (s.sessionGen.toNat + 1), sessionActive := true })))

/-- R146: STOP, every path; with no live session a no-op. -/
def Obligations.StopFollowsItsRule : Prop :=
  (∀ cb, (encode (.stop cb)).extractLsb' 0 4 = 0x5) ∧
  ∀ s : State,
    let meas : Byte := BitVec.ofNat 8 (32 * s.osrsT.toNat + 4 * s.osrsP.toNat)
    exec (.stop true) s = .next (ended 0x09 0 s) ∧
    (s.sessionActive = false → exec (.stop false) s = .next (ended 0x00 0 s)) ∧
    (s.sessionActive = true → okAt s 0 = true → exec (.stop false) s = .next (ended 0x00 0
      { consumed 1 [.write 0xF4 meas true, .sessionRelease] s with sessionActive := false, mode := 0 })) ∧
    (s.sessionActive = true → okAt s 0 = false → exec (.stop false) s = .next (ended 0x01 0
      { consumed 1 [.write 0xF4 meas false, .sessionRelease] s with sessionActive := false }))

/-- R148: CLOSE, every path; sleep-on-close, the session released, closed even when the write fails. -/
def Obligations.CloseFollowsItsRule : Prop :=
  (∀ cb, (encode (.closeCmd cb)).extractLsb' 0 4 = 0x2) ∧
  ∀ s : State,
    let meas : Byte := BitVec.ofNat 8 (32 * s.osrsT.toNat + 4 * s.osrsP.toNat)
    let release : List Event := if s.sessionActive then [.sessionRelease] else []
    exec (.closeCmd true) s = .next (ended 0x09 0 s) ∧
    (s.isOpen = false → exec (.closeCmd false) s = .next (ended 0x00 0 s)) ∧
    (s.isOpen = true → okAt s 0 = true → exec (.closeCmd false) s = .next (ended 0x00 0
      { consumed 1 (.write 0xF4 meas true :: release) s with
        sessionActive := false, mode := 0, isOpen := false, rawValid := false, tfValid := false })) ∧
    (s.isOpen = true → okAt s 0 = false → exec (.closeCmd false) s = .next (ended 0x01 0
      { consumed 1 (.write 0xF4 meas false :: release) s with
        sessionActive := false, isOpen := false, rawValid := false, tfValid := false }))

/-- R149, R150: POLL. Past its pre-checks it does what the loop does with `poll_d = 2` and the other poll registers 0;
and each pass of the loop, from any state that is BUSY with the operands RD and TMO, does what R150 lists. (That one
pass is one step is the model's reading, log 3.) -/
def Obligations.PollFollowsItsRule : Prop :=
  (∀ cb rd tmo, (encode (.poll cb rd tmo)).extractLsb' 0 4 = 0x6) ∧
  (∀ (s : State) (rd : Bool) (tmo : BitVec 32),
    exec (.poll true rd tmo) s = .next (ended 0x09 0 s) ∧
    (s.isOpen = false → exec (.poll false rd tmo) s = .next (ended 0x04 0 s)) ∧
    (s.isOpen = true → ∀ t, exec (.poll false rd tmo) s = .next t ↔
      step { s with pollD := 2, pollTotal := 0, pollReads := 0, phase := .busy rd tmo } = .next t)) ∧
  (∀ (s : State) (rd : Bool) (tmo : BitVec 32), s.phase = .busy rd tmo →
    let low := s.pollTotal.setWidth 32
    let reads := BitVec.ofNat 32 (s.pollReads.toNat + 1)
    let st := byteAt s 0 0
    let mode' : BitVec 2 := if s.mode = 1 then 0 else s.mode
    let total := s.pollTotal + s.pollD.setWidth 64
    (okAt s 0 = false →
      step s = .next (ended 0x01 low { consumed 1 [.read 0xF3 1 false []] s with pollReads := reads })) ∧
    (okAt s 0 = true → st &&& 0x05 = 0 → rd = false →
      step s = .next (ended 0x00 low
        { consumed 1 [.read 0xF3 1 true [st]] s with pollReads := reads, mode := mode' })) ∧
    (okAt s 0 = true → st &&& 0x05 = 0 → rd = true → okAt s 1 = false →
      step s = .next (ended 0x01 low
        { consumed 2 [.read 0xF3 1 true [st], .read 0xF7 8 false []] s with pollReads := reads, mode := mode' })) ∧
    (okAt s 0 = true → st &&& 0x05 = 0 → rd = true → okAt s 1 = true →
      step s = .next (ended 0x00 low
        { consumed 2 [.read 0xF3 1 true [st], .read 0xF7 8 true (bytesAt 8 s 1).toList] s with
          pollReads := reads, mode := mode', raw := fanOut (bytesAt 8 s 1), rawValid := true, tfValid := false })) ∧
    (okAt s 0 = true → st &&& 0x05 ≠ 0 → tmo ≠ 0 → tmo.toNat < total.toNat →
      step s = .next (ended 0x03 (total.setWidth 32)
        { consumed 1 [.read 0xF3 1 true [st], .delay s.pollD] s with pollReads := reads, pollTotal := total })) ∧
    (okAt s 0 = true → st &&& 0x05 ≠ 0 → (tmo = 0 ∨ total.toNat ≤ tmo.toNat) →
      step s = .next { consumed 1 [.read 0xF3 1 true [st], .delay s.pollD] s with
        pollReads := reads, pollTotal := total, pollD := BitVec.ofNat 16 (min (2 * s.pollD.toNat) 32768) }))

/-- R150, corner: a device ready at the first status read ends POLL at once, OK with result 0 and no `Delay`; with
RD = 1 the sample is read too. -/
def Obligations.PollOfAReadyDeviceEndsAtOnce : Prop :=
  ∀ (s : State) (tmo : BitVec 32), s.isOpen = true → okAt s 0 = true → byteAt s 0 0 &&& 0x05 = 0 →
    let mode' : BitVec 2 := if s.mode = 1 then 0 else s.mode
    exec (.poll false false tmo) s = .next (ended 0x00 0
      { consumed 1 [.read 0xF3 1 true [byteAt s 0 0]] s with
        pollD := 2, pollTotal := 0, pollReads := 1, mode := mode' }) ∧
    (okAt s 1 = true → exec (.poll false true tmo) s = .next (ended 0x00 0
      { consumed 2 [.read 0xF3 1 true [byteAt s 0 0], .read 0xF7 8 true (bytesAt 8 s 1).toList] s with
        pollD := 2, pollTotal := 0, pollReads := 1, mode := mode', raw := fanOut (bytesAt 8 s 1), rawValid := true,
        tfValid := false }))

/-- R181: READ_RAW, every path. -/
def Obligations.ReadRawFollowsItsRule : Prop :=
  (∀ cb, (encode (.readRaw cb)).extractLsb' 0 4 = 0x7) ∧
  ∀ s : State,
    exec (.readRaw true) s = .next (ended 0x09 0 s) ∧
    (s.isOpen = false → exec (.readRaw false) s = .next (ended 0x04 0 s)) ∧
    (s.isOpen = true → okAt s 0 = false →
      exec (.readRaw false) s = .next (ended 0x01 0 (consumed 1 [.read 0xF7 8 false []] s))) ∧
    (s.isOpen = true → okAt s 0 = true → exec (.readRaw false) s = .next (ended 0x00 0
      { consumed 1 [.read 0xF7 8 true (bytesAt 8 s 0).toList] s with
        raw := fanOut (bytesAt 8 s 0), rawValid := true, tfValid := false }))

/-- R192, R193: COMP_T, every path, its result and `t_fine` those of exact integers wrapped to s32 operation by
operation. -/
def Obligations.CompTFollowsItsRule : Prop :=
  (∀ cb, (encode (.compT cb)).extractLsb' 0 4 = 0x8) ∧
  ∀ (s : State) (cb : Bool),
    (s.isOpen = false → exec (.compT cb) s = .next (ended 0x04 0 s)) ∧
    (s.isOpen = true → s.rawValid = false → exec (.compT cb) s = .next (ended 0x05 0 s)) ∧
    (s.isOpen = true → s.rawValid = true →
      let tf := Reference.tFine s.raw.adcT.toNat s.coef.t1.toNat s.coef.t2.toInt s.coef.t3.toInt
      exec (.compT cb) s = .next (ended 0x00 (BitVec.ofInt 32 (Reference.temp tf))
        { s with tFine := BitVec.ofInt 32 tf, tfValid := true }))

/-- R195 to R198: COMP_P, every path; the degenerate guard; the result is the low 32 bits of the last `p` of exact
integers wrapped to s64 operation by operation. -/
def Obligations.CompPFollowsItsRule : Prop :=
  (∀ cb, (encode (.compP cb)).extractLsb' 0 4 = 0x9) ∧
  ∀ (s : State) (cb : Bool),
    let v1 := Reference.pressVar1 s.coef s.tFine.toInt
    let v2 := Reference.pressVar2 s.coef s.tFine.toInt
    (s.isOpen = false → exec (.compP cb) s = .next (ended 0x04 0 s)) ∧
    (s.isOpen = true → s.tfValid = false → exec (.compP cb) s = .next (ended 0x06 0 s)) ∧
    (s.isOpen = true → s.tfValid = true → v1 = 0 → exec (.compP cb) s = .next (ended 0x10 0 s)) ∧
    (s.isOpen = true → s.tfValid = true → v1 ≠ 0 → exec (.compP cb) s = .next (ended 0x00
      (BitVec.ofInt 32 (Reference.pressLast s.coef s.raw.adcP.toNat v1 v2)) s))

/-- R200, R201, R203: COMP_H, every path, its result that of exact integers wrapped to s32 operation by operation (H3
unsigned, the spec's CAL_H3_SIGNED). -/
def Obligations.CompHFollowsItsRule : Prop :=
  (∀ cb, (encode (.compH cb)).extractLsb' 0 4 = 0xA) ∧
  ∀ (s : State) (cb : Bool),
    (s.isOpen = false → exec (.compH cb) s = .next (ended 0x04 0 s)) ∧
    (s.isOpen = true → s.tfValid = false → exec (.compH cb) s = .next (ended 0x06 0 s)) ∧
    (s.isOpen = true → s.tfValid = true → exec (.compH cb) s = .next (ended 0x00
      (BitVec.ofInt 32 (Reference.hum s.coef s.coef.h3.toNat s.raw.adcH.toNat s.tFine.toInt)) s))

/-! ## Decoding of calibration and raw bytes -/

/-- R123, R124, R125, R126: the decode table in whole numbers: low byte first, signed fields by two's complement, the split
12-bit fields with no sign extension; H3 in the s32 context by CAL_H3_SIGNED. -/
def Obligations.CoefficientsFollowTheDecodeTable : Prop :=
  ∀ b : Vector Byte 33,
    let u (lo hi : Byte) : Int := lo.toNat + 256 * hi.toNat
    let c := decodeCal b
    c.t1.toNat = u b[0] b[1] ∧ c.p1.toNat = u b[6] b[7] ∧
    c.t2.toInt = (u b[2] b[3]).bmod 65536 ∧ c.t3.toInt = (u b[4] b[5]).bmod 65536 ∧
    c.p2.toInt = (u b[8] b[9]).bmod 65536 ∧ c.p3.toInt = (u b[10] b[11]).bmod 65536 ∧
    c.p4.toInt = (u b[12] b[13]).bmod 65536 ∧ c.p5.toInt = (u b[14] b[15]).bmod 65536 ∧
    c.p6.toInt = (u b[16] b[17]).bmod 65536 ∧ c.p7.toInt = (u b[18] b[19]).bmod 65536 ∧
    c.p8.toInt = (u b[20] b[21]).bmod 65536 ∧ c.p9.toInt = (u b[22] b[23]).bmod 65536 ∧
    c.h2.toInt = (u b[26] b[27]).bmod 65536 ∧
    c.h1.toNat = b[25].toNat ∧ c.h6.toInt = b[32].toInt ∧
    (h3Operand false c.h3).toInt = b[28].toNat ∧ (h3Operand true c.h3).toInt = b[28].toInt ∧
    c.h4.toNat = 16 * b[29].toNat + b[30].toNat % 16 ∧ c.h5.toNat = 16 * b[31].toNat + b[30].toNat / 16

/-- R23, R63: after an OPEN that succeeds, `cal_buf` holds each calibration register at its index: register `a` of
block 1 is byte `a - 0x88` of the answer to X2, register `a` of block 2 is byte `a - 0xE1` of the answer to X3. -/
def Obligations.CalBufHoldsEachRegisterAtItsIndex : Prop :=
  ∀ s t : State, exec (.openCmd false) s = .next t → t.sts = 0x00 →
    ∀ (a : Byte) (k : Nat), calIndex a = some k →
      ∃ h : k < 33, t.calBuf[k] =
        if a.toNat ≤ 0xA1 then byteAt s 1 (a.toNat - 0x88) else byteAt s 2 (a.toNat - 0xE1)

/-- R127: the coefficients of an OPEN that succeeds depend on the bytes of its own bursts alone, register by register,
not on what the block held; and not on byte 24 (register 0xA0). -/
def Obligations.OpenDecodesIndependentlyOfHistory : Prop :=
  ∀ s s' t t' : State, exec (.openCmd false) s = .next t → exec (.openCmd false) s' = .next t' →
    t.sts = 0x00 → t'.sts = 0x00 → (∀ i < 26, i ≠ 24 → byteAt s 1 i = byteAt s' 1 i) →
    (∀ i < 7, byteAt s 2 i = byteAt s' 2 i) → t.coef = t'.coef

/-- R180: the fan-out in whole numbers: the top 20 bits of two big-endian 24-bit fields and a big-endian 16-bit field,
none sign extended. -/
def Obligations.FanOutTakesTheTopBits : Prop :=
  ∀ b : Vector Byte 8,
    (fanOut b).adcP.toNat = (65536 * b[0].toNat + 256 * b[1].toNat + b[2].toNat) / 16 ∧
    (fanOut b).adcT.toNat = (65536 * b[3].toNat + 256 * b[4].toNat + b[5].toNat) / 16 ∧
    (fanOut b).adcH.toNat = 256 * b[6].toNat + b[7].toNat

/-! ## The compensation engine -/

/-- R200, R201 for either value of CAL_H3_SIGNED (R125, item I5): the engine is the rule on exact integers. -/
def Obligations.HumidityEngineForEitherSignOfH3 : Prop :=
  ∀ (signed : Bool) (c : Coeffs) (adcH : BitVec 16) (tf : BitVec 32),
    ((compHumWith signed c adcH tf).toNat : Int) =
      Reference.hum c (if signed then c.h3.toInt else c.h3.toNat) adcH.toNat tf.toInt

/-- R194: the temperature lies in [-2^23, 2^23). (The spec derives this from R192.) -/
def Obligations.TemperatureRange : Prop :=
  ∀ (adcT : BitVec 20) (t1 t2 t3 : BitVec 16),
    -(2 ^ 23) ≤ (compTemp adcT t1 t2 t3).temp.toInt ∧ (compTemp adcT t1 t2 t3).temp.toInt < 2 ^ 23

/-- R202, R201: the humidity is at most 102400 for every sample, and some sample gives 102400. (The spec derives R202
from R201.) -/
def Obligations.HumidityIsClamped : Prop :=
  (∀ (c : Coeffs) (adcH : BitVec 16) (tf : BitVec 32), (compHum c adcH tf).toNat ≤ 102400) ∧
  ∃ (c : Coeffs) (adcH : BitVec 16) (tf : BitVec 32), (compHum c adcH tf).toNat = 102400

/-- R190: COMP_P's outputs depend on `adc_P`, P1 to P9 and `t_fine` alone, COMP_H's on `adc_H`, H1 to H6 and `t_fine`
alone, COMP_T's result and `t_fine` on `adc_T`, T1, T2, T3 alone, once the pre-checks pass. -/
def Obligations.ResultsDependOnTheirInputsAlone : Prop :=
  ∀ (cb : Bool) (s s' t t' : State), s.isOpen = true → s'.isOpen = true →
    (s.rawValid = true → s'.rawValid = true →
      s.raw.adcT = s'.raw.adcT → s.coef.t1 = s'.coef.t1 → s.coef.t2 = s'.coef.t2 → s.coef.t3 = s'.coef.t3 →
      exec (.compT cb) s = .next t → exec (.compT cb) s' = .next t' →
      t.res = t'.res ∧ t.sts = t'.sts ∧ t.tFine = t'.tFine) ∧
    (s.tfValid = true → s'.tfValid = true → s.tFine = s'.tFine →
      (s.raw.adcP = s'.raw.adcP →
        s.coef = { s'.coef with t1 := s.coef.t1, t2 := s.coef.t2, t3 := s.coef.t3, h1 := s.coef.h1, h2 := s.coef.h2,
                                h3 := s.coef.h3, h4 := s.coef.h4, h5 := s.coef.h5, h6 := s.coef.h6 } →
        exec (.compP cb) s = .next t → exec (.compP cb) s' = .next t' → t.res = t'.res ∧ t.sts = t'.sts) ∧
      (s.raw.adcH = s'.raw.adcH →
        s.coef.h1 = s'.coef.h1 → s.coef.h2 = s'.coef.h2 → s.coef.h3 = s'.coef.h3 → s.coef.h4 = s'.coef.h4 →
        s.coef.h5 = s'.coef.h5 → s.coef.h6 = s'.coef.h6 →
        exec (.compH cb) s = .next t → exec (.compH cb) s' = .next t' → t.res = t'.res ∧ t.sts = t'.sts))

/-- R204: after any sequence of COMP_P and COMP_H from a state with `t_fine` valid, COMP_P and COMP_H give what they gave
before it; and after a successful READ_RAW or POLL with RD = 1 (one that ends at its first pass or at a later one), or an
OPEN or CLOSE that passes its pre-checks, they refuse with NO_TFINE or NOT_OPEN. (The spec derives R204 from R193, R198, R203 and R181.) -/
def Obligations.PressureAndHumidityInAnyOrder : Prop :=
  (∀ (l : List Instr) (i : Instr) (s : State), s.isOpen = true → s.tfValid = true → (∀ j ∈ l, usesTfine j) →
    usesTfine i → ∃ t u v, execAll l s = .next t ∧ exec i s = .next u ∧ exec i t = .next v ∧
      v.res = u.res ∧ v.sts = u.sts) ∧
  (∀ (i : Instr) (s t : State), usesTfine i →
    (exec (.readRaw false) s = .next t ∧ t.sts = 0x00 ∨
      (∃ tmo, s.phase = .busy true tmo ∧ step s = .next t ∧ t.phase = .idle ∧ t.sts = 0x00) ∨
      (∃ tmo, exec (.poll false true tmo) s = .next t ∧ t.phase = .idle ∧ t.sts = 0x00) ∨
      (s.sessionActive = false ∧ exec (.openCmd false) s = .next t) ∨ exec (.closeCmd false) s = .next t) →
    exec i t = .next (ended 0x06 0 t) ∨ exec i t = .next (ended 0x04 0 t))

/-! ## The whole machine -/

/-- R61, R71: a step only adds to the trace; a transaction it adds is one of X1 to X8, and is one the command it
executes, or the POLL that runs, may issue. -/
def Obligations.OnlyTheListedTransactionsAreIssued : Prop :=
  (∀ s t : State, step s = .next t → ∃ evs, t.trace = s.trace ++ evs ∧
    ∀ e ∈ evs, eventPayload e = none ∨ Transaction e) ∧
  (∀ (i : Instr) (s t : State), exec i s = .next t → ∃ evs, t.trace = s.trace ++ evs ∧ ∀ e ∈ evs, mayIssue i e) ∧
  (∀ (s t : State) (rd : Bool) (tmo : BitVec 32), s.phase = .busy rd tmo → step s = .next t →
    ∃ evs, t.trace = s.trace ++ evs ∧ ∀ e ∈ evs, mayIssue (.poll false rd tmo) e)

/-- R87: every transaction a step issues addresses SLAVE_ADDR and has one of two forms: a one-byte payload, the
register address, and 1, 7, 8 or 26 bytes read; or a two-byte payload, address and value, and nothing read. -/
def Obligations.TransactionsHaveTwoForms : Prop :=
  ∀ s t : State, step s = .next t → ∃ evs, t.trace = s.trace ++ evs ∧
    ∀ e ∈ evs, eventPayload e = none ∨
      eventSlave e = some Config.slaveAddr ∧
        ((∃ a n ok bs, e = .read a n ok bs ∧ eventPayload e = some [a] ∧ eventReadLen e = some n ∧
            (n = 1 ∨ n = 7 ∨ n = 8 ∨ n = 26)) ∨
          ∃ a v ok, e = .write a v ok ∧ eventPayload e = some [a, v] ∧ eventReadLen e = some 0)

/-- R38: who writes each flag. `open` is set only by OPEN and cleared only by OPEN and CLOSE; `raw_valid` is set only by
READ_RAW and POLL with RD = 1 and cleared only by OPEN and CLOSE; `tf_valid` is set only by COMP_T and cleared only by
a raw read, OPEN and CLOSE; `session_active` is set only by START_NORMAL and cleared only by STOP and CLOSE; DEG, when a
command ends, is 1 exactly for a COMP_P that passes its pre-checks with `var1` 0. (The spec derives R38 from the command
rules.) -/
def Obligations.FlagsAreWrittenOnlyAsListed : Prop :=
  (∀ (i : Instr) (s t : State), exec i s = .next t →
    (t.isOpen ≠ s.isOpen → (∃ cb, i = .openCmd cb) ∨ (∃ cb, i = .closeCmd cb) ∧ t.isOpen = false) ∧
    (t.rawValid ≠ s.rawValid →
      ((∃ cb, i = .readRaw cb) ∨ ∃ cb tmo, i = .poll cb true tmo) ∧ t.rawValid = true ∨
      ((∃ cb, i = .openCmd cb) ∨ ∃ cb, i = .closeCmd cb) ∧ t.rawValid = false) ∧
    (t.tfValid ≠ s.tfValid →
      (∃ cb, i = .compT cb) ∧ t.tfValid = true ∨
      ((∃ cb, i = .readRaw cb) ∨ (∃ cb tmo, i = .poll cb true tmo) ∨ (∃ cb, i = .openCmd cb) ∨ ∃ cb, i = .closeCmd cb) ∧
        t.tfValid = false) ∧
    (t.sessionActive ≠ s.sessionActive →
      (∃ cb sb, i = .startNormal cb sb) ∧ t.sessionActive = true ∨
      ((∃ cb, i = .stop cb) ∨ ∃ cb, i = .closeCmd cb) ∧ t.sessionActive = false) ∧
    (t.phase = .idle → (t.sts.getLsbD 4 = true ↔
      (∃ cb, i = .compP cb) ∧ s.isOpen = true ∧ s.tfValid = true ∧
        Reference.pressVar1 s.coef s.tFine.toInt = 0))) ∧
  (∀ (s t : State) (rd : Bool) (tmo : BitVec 32), s.phase = .busy rd tmo → step s = .next t →
    t.isOpen = s.isOpen ∧ t.sessionActive = s.sessionActive ∧
    (t.rawValid ≠ s.rawValid → rd = true ∧ t.rawValid = true) ∧
    (t.tfValid ≠ s.tfValid → rd = true ∧ t.tfValid = false) ∧
    (t.phase = .idle → t.sts.getLsbD 4 = false))

/-- R23, R24, R26, R28, R31, R32, R33, R35: each register has its writers and no others: `cal_buf` and the coefficients
OPEN, the raw fields READ_RAW and POLL with RD = 1, `t_fine` COMP_T, `sb` and `session_gen` START_NORMAL, `osrs_*`
TRIGGER_FORCED, the poll registers POLL. -/
def Obligations.RegistersAreWrittenOnlyByTheirOwners : Prop :=
  (∀ (i : Instr) (s t : State), exec i s = .next t →
    ((t.calBuf ≠ s.calBuf ∨ t.coef ≠ s.coef) → ∃ cb, i = .openCmd cb) ∧
    (t.raw ≠ s.raw → (∃ cb, i = .readRaw cb) ∨ ∃ cb tmo, i = .poll cb true tmo) ∧
    (t.tFine ≠ s.tFine → ∃ cb, i = .compT cb) ∧
    ((t.sb ≠ s.sb ∨ t.sessionGen ≠ s.sessionGen) → ∃ cb sb, i = .startNormal cb sb) ∧
    ((t.osrsT ≠ s.osrsT ∨ t.osrsP ≠ s.osrsP ∨ t.osrsH ≠ s.osrsH) → ∃ cb ot op oh, i = .triggerForced cb ot op oh) ∧
    ((t.pollD ≠ s.pollD ∨ t.pollTotal ≠ s.pollTotal ∨ t.pollReads ≠ s.pollReads) → ∃ cb rd tmo, i = .poll cb rd tmo)) ∧
  (∀ (s t : State) (rd : Bool) (tmo : BitVec 32), s.phase = .busy rd tmo → step s = .next t →
    t.calBuf = s.calBuf ∧ t.coef = s.coef ∧ t.tFine = s.tFine ∧ t.sb = s.sb ∧ t.sessionGen = s.sessionGen ∧
    t.osrsT = s.osrsT ∧ t.osrsP = s.osrsP ∧ t.osrsH = s.osrsH ∧ (t.raw ≠ s.raw → rd = true))

/-- R140: `mode` moves only as the table of the mode machine says, TRIGGER_FORCED and START_NORMAL with both their writes
ok. (TRIGGER_FORCED moves it from mode 3 too when no session is live, which the table does not list: the model follows
R142, log 6.) -/
def Obligations.ModeMovesOnlyAsTabled : Prop :=
  (∀ (i : Instr) (s t : State), exec i s = .next t → t.mode ≠ s.mode →
    s.isOpen = true ∧ s.sessionActive = false ∧ t.mode = 1 ∧ okAt s 0 = true ∧ okAt s 1 = true ∧
        (∃ ot op oh, i = .triggerForced false ot op oh) ∨
    s.isOpen = true ∧ s.sessionActive = false ∧ t.mode = 3 ∧ t.sessionActive = true ∧ okAt s 0 = true ∧
        okAt s 1 = true ∧ (∃ sb, i = .startNormal false sb) ∨
    s.mode = 1 ∧ t.mode = 0 ∧ okAt s 0 = true ∧ byteAt s 0 0 &&& 0x05 = 0 ∧ (∃ rd tmo, i = .poll false rd tmo) ∨
    s.sessionActive = true ∧ t.mode = 0 ∧ t.sessionActive = false ∧ okAt s 0 = true ∧ i = .stop false ∨
    s.isOpen = true ∧ t.mode = 0 ∧ t.isOpen = false ∧ okAt s 0 = true ∧ i = .closeCmd false) ∧
  (∀ (s t : State) (rd : Bool) (tmo : BitVec 32), s.phase = .busy rd tmo → step s = .next t → t.mode ≠ s.mode →
    s.mode = 1 ∧ t.mode = 0 ∧ okAt s 0 = true ∧ byteAt s 0 0 &&& 0x05 = 0)

/-- R147: a second STOP changes nothing that the first left and issues nothing, but that it reports OK. (A first STOP
whose write failed reported TRANSPORT_ERROR, so R147's "same state" is read as all but STS: log 7.) -/
def Obligations.StopIsIdempotent : Prop :=
  ∀ s t : State, exec (.stop false) s = .next t → exec (.stop false) t = .next { t with sts := 0x00 }

/-- R33: the handle START_NORMAL returns is valid, and no other; after STOP, and after a CLOSE in a state that meets the
invariant, no handle is valid. -/
def Obligations.HandlesLiveFromStartToStop : Prop :=
  (∀ (s t : State) (sb : BitVec 3), exec (.startNormal false sb) s = .next t → t.sts = 0x00 →
    ∀ h, handleValid t h = true ↔ h = t.res) ∧
  (∀ s t : State, exec (.stop false) s = .next t → ∀ h, handleValid t h = false) ∧
  (∀ s t : State, Consistent s → exec (.closeCmd false) s = .next t → ∀ h, handleValid t h = false)

/-! ## POLL as a whole -/

/-- R151: on a device that never becomes ready, a POLL with a nonzero timeout ends in TIMEOUT after exactly `K` status
reads and `K` delays, `K` the least `k` whose total passes the timeout; the delays are `min(2^k, 32768)`; and
`K <= 16 + TMO / 32768`. (The spec derives R151 from R150; one pass is one step: the model's reading, log 3.) -/
def Obligations.UnreadyPollTimesOutOnSchedule : Prop :=
  ∀ (s : State) (rd : Bool) (tmo : BitVec 32), s.isOpen = true → tmo ≠ 0 →
    ∃ K, 1 ≤ K ∧ K ≤ 16 + tmo.toNat / 32768 ∧ tmo.toNat < Reference.pollTotal K ∧
      (∀ k < K, Reference.pollTotal k ≤ tmo.toNat) ∧
      (unreadyFor K s → ∃ u, exec (.poll false rd tmo) s = .next u ∧
        core.run (K - 1) u = .next (ended 0x03 (BitVec.ofNat 32 (Reference.pollTotal K))
          { consumed K (Reference.pollEvents (fun j => byteAt s j 0) K) s with
            pollD := BitVec.ofNat 16 (Reference.pollDelay K), pollTotal := BitVec.ofNat 64 (Reference.pollTotal K),
            pollReads := BitVec.ofNat 32 K }))

/-- R152: with TMO = 0, a POLL on a device that stays unready never ends: after any number of further passes the block
is still BUSY with it, and its trace holds one status read and one delay per pass. (The spec derives R152 from R150; one
pass is one step: the model's reading, log 3.) -/
def Obligations.UnboundedPollNeverEnds : Prop :=
  ∀ (k : Nat) (s : State) (rd : Bool), s.isOpen = true → unreadyFor (k + 1) s →
    ∃ u t, exec (.poll false rd 0) s = .next u ∧ core.run k u = .next t ∧ t.phase = .busy rd 0 ∧
      t.trace = s.trace ++ Reference.pollEvents (fun j => byteAt s j 0) (k + 1) ∧
      t.pollTotal.toNat = Reference.pollTotal (k + 1) % 2 ^ 64 ∧ t.pollReads.toNat = (k + 1) % 2 ^ 32

/-! ## Notation -/

/-- R103: the pseudo-instructions expand to the commands listed, in that order. -/
def Obligations.PseudoInstructionsExpandAsListed : Prop :=
  (∀ (a b c : BitVec 3) (n : BitVec 32),
    pseudoMeasure a b c n = [.triggerForced false a b c, .poll false true n]) ∧
  pseudoCompensate = [.compT false, .compP false, .compH false] ∧
  Assembler.words "MEASURE t=1 p=1 h=1 tmo=100" = some [0x0000000000004903, 0x0000006400000026] ∧
  Assembler.words "COMPENSATE" = some [0x8, 0x9, 0xA] ∧
  Assembler.words "POLL.R tmo=0x64 @cb" = some [0x0000006400000036]
end

