-- ==== Sys2Proof/Laws/State.lean ====
section
/-! SUPPORT. What each named update of the state leaves in each field, and that an update which leaves the inputs alone
leaves the answers to come; true by unfolding. -/

namespace Sys2Proof.Machine

/-! ## `finish` (00_scope.md R12) -/

@[simp] theorem finish_calBuf (code : OutcomeCode) (res : Word32) (deg : Bool) (s : State) : (finish code res deg s).calBuf = s.calBuf := rfl
@[simp] theorem finish_coef (code : OutcomeCode) (res : Word32) (deg : Bool) (s : State) : (finish code res deg s).coef = s.coef := rfl
@[simp] theorem finish_isOpen (code : OutcomeCode) (res : Word32) (deg : Bool) (s : State) : (finish code res deg s).isOpen = s.isOpen := rfl
@[simp] theorem finish_raw (code : OutcomeCode) (res : Word32) (deg : Bool) (s : State) : (finish code res deg s).raw = s.raw := rfl
@[simp] theorem finish_rawValid (code : OutcomeCode) (res : Word32) (deg : Bool) (s : State) : (finish code res deg s).rawValid = s.rawValid := rfl
@[simp] theorem finish_tFine (code : OutcomeCode) (res : Word32) (deg : Bool) (s : State) : (finish code res deg s).tFine = s.tFine := rfl
@[simp] theorem finish_tfValid (code : OutcomeCode) (res : Word32) (deg : Bool) (s : State) : (finish code res deg s).tfValid = s.tfValid := rfl
@[simp] theorem finish_mode (code : OutcomeCode) (res : Word32) (deg : Bool) (s : State) : (finish code res deg s).mode = s.mode := rfl
@[simp] theorem finish_sb (code : OutcomeCode) (res : Word32) (deg : Bool) (s : State) : (finish code res deg s).sb = s.sb := rfl
@[simp] theorem finish_osrsT (code : OutcomeCode) (res : Word32) (deg : Bool) (s : State) : (finish code res deg s).osrsT = s.osrsT := rfl
@[simp] theorem finish_osrsP (code : OutcomeCode) (res : Word32) (deg : Bool) (s : State) : (finish code res deg s).osrsP = s.osrsP := rfl
@[simp] theorem finish_osrsH (code : OutcomeCode) (res : Word32) (deg : Bool) (s : State) : (finish code res deg s).osrsH = s.osrsH := rfl
@[simp] theorem finish_sessionActive (code : OutcomeCode) (res : Word32) (deg : Bool) (s : State) : (finish code res deg s).sessionActive = s.sessionActive := rfl
@[simp] theorem finish_sessionGen (code : OutcomeCode) (res : Word32) (deg : Bool) (s : State) : (finish code res deg s).sessionGen = s.sessionGen := rfl
@[simp] theorem finish_pollD (code : OutcomeCode) (res : Word32) (deg : Bool) (s : State) : (finish code res deg s).pollD = s.pollD := rfl
@[simp] theorem finish_pollTotal (code : OutcomeCode) (res : Word32) (deg : Bool) (s : State) : (finish code res deg s).pollTotal = s.pollTotal := rfl
@[simp] theorem finish_pollReads (code : OutcomeCode) (res : Word32) (deg : Bool) (s : State) : (finish code res deg s).pollReads = s.pollReads := rfl
@[simp] theorem finish_phase (code : OutcomeCode) (res : Word32) (deg : Bool) (s : State) : (finish code res deg s).phase = .idle := rfl
@[simp] theorem finish_sts (code : OutcomeCode) (res : Word32) (deg : Bool) (s : State) : (finish code res deg s).sts = stsWord code deg := rfl
@[simp] theorem finish_res (code : OutcomeCode) (res : Word32) (deg : Bool) (s : State) : (finish code res deg s).res = res := rfl
@[simp] theorem finish_trace (code : OutcomeCode) (res : Word32) (deg : Bool) (s : State) : (finish code res deg s).trace = s.trace := rfl
@[simp] theorem finish_port (code : OutcomeCode) (res : Word32) (deg : Bool) (s : State) : (finish code res deg s).port = s.port := rfl
@[simp] theorem finish_answers (code : OutcomeCode) (res : Word32) (deg : Bool) (s : State) : (finish code res deg s).answers = s.answers := rfl
@[simp] theorem finish_draws (code : OutcomeCode) (res : Word32) (deg : Bool) (s : State) : (finish code res deg s).draws = s.draws := rfl
@[simp] theorem okAt_finish (code : OutcomeCode) (res : Word32) (deg : Bool) (s : State) (k : Nat) : okAt (finish code res deg s) k = okAt s k := rfl
@[simp] theorem byteAt_finish (code : OutcomeCode) (res : Word32) (deg : Bool) (s : State) (k i : Nat) : byteAt (finish code res deg s) k i = byteAt s k i := rfl
@[simp] theorem bytesAt_finish (code : OutcomeCode) (res : Word32) (deg : Bool) (n : Nat) (s : State) (k : Nat) :
    bytesAt n (finish code res deg s) k = bytesAt n s k := rfl

/-! ## An answer drawn (00_scope.md R12) -/

@[simp] theorem drawn_calBuf (e : Event) (s : State) : (drawn e s).calBuf = s.calBuf := rfl
@[simp] theorem drawn_coef (e : Event) (s : State) : (drawn e s).coef = s.coef := rfl
@[simp] theorem drawn_isOpen (e : Event) (s : State) : (drawn e s).isOpen = s.isOpen := rfl
@[simp] theorem drawn_raw (e : Event) (s : State) : (drawn e s).raw = s.raw := rfl
@[simp] theorem drawn_rawValid (e : Event) (s : State) : (drawn e s).rawValid = s.rawValid := rfl
@[simp] theorem drawn_tFine (e : Event) (s : State) : (drawn e s).tFine = s.tFine := rfl
@[simp] theorem drawn_tfValid (e : Event) (s : State) : (drawn e s).tfValid = s.tfValid := rfl
@[simp] theorem drawn_mode (e : Event) (s : State) : (drawn e s).mode = s.mode := rfl
@[simp] theorem drawn_sb (e : Event) (s : State) : (drawn e s).sb = s.sb := rfl
@[simp] theorem drawn_osrsT (e : Event) (s : State) : (drawn e s).osrsT = s.osrsT := rfl
@[simp] theorem drawn_osrsP (e : Event) (s : State) : (drawn e s).osrsP = s.osrsP := rfl
@[simp] theorem drawn_osrsH (e : Event) (s : State) : (drawn e s).osrsH = s.osrsH := rfl
@[simp] theorem drawn_sessionActive (e : Event) (s : State) : (drawn e s).sessionActive = s.sessionActive := rfl
@[simp] theorem drawn_sessionGen (e : Event) (s : State) : (drawn e s).sessionGen = s.sessionGen := rfl
@[simp] theorem drawn_pollD (e : Event) (s : State) : (drawn e s).pollD = s.pollD := rfl
@[simp] theorem drawn_pollTotal (e : Event) (s : State) : (drawn e s).pollTotal = s.pollTotal := rfl
@[simp] theorem drawn_pollReads (e : Event) (s : State) : (drawn e s).pollReads = s.pollReads := rfl
@[simp] theorem drawn_phase (e : Event) (s : State) : (drawn e s).phase = s.phase := rfl
@[simp] theorem drawn_sts (e : Event) (s : State) : (drawn e s).sts = s.sts := rfl
@[simp] theorem drawn_res (e : Event) (s : State) : (drawn e s).res = s.res := rfl
@[simp] theorem drawn_trace (e : Event) (s : State) : (drawn e s).trace = s.trace ++ [e] := rfl
@[simp] theorem drawn_port (e : Event) (s : State) : (drawn e s).port = s.port := rfl
@[simp] theorem drawn_answers (e : Event) (s : State) : (drawn e s).answers = s.answers.tail := rfl
@[simp] theorem drawn_draws (e : Event) (s : State) : (drawn e s).draws = s.draws + 1 := rfl

/-! ## An interaction that draws no answer -/

@[simp] theorem emit_calBuf (e : Event) (s : State) : (emit e s).calBuf = s.calBuf := rfl
@[simp] theorem emit_coef (e : Event) (s : State) : (emit e s).coef = s.coef := rfl
@[simp] theorem emit_isOpen (e : Event) (s : State) : (emit e s).isOpen = s.isOpen := rfl
@[simp] theorem emit_raw (e : Event) (s : State) : (emit e s).raw = s.raw := rfl
@[simp] theorem emit_rawValid (e : Event) (s : State) : (emit e s).rawValid = s.rawValid := rfl
@[simp] theorem emit_tFine (e : Event) (s : State) : (emit e s).tFine = s.tFine := rfl
@[simp] theorem emit_tfValid (e : Event) (s : State) : (emit e s).tfValid = s.tfValid := rfl
@[simp] theorem emit_mode (e : Event) (s : State) : (emit e s).mode = s.mode := rfl
@[simp] theorem emit_sb (e : Event) (s : State) : (emit e s).sb = s.sb := rfl
@[simp] theorem emit_osrsT (e : Event) (s : State) : (emit e s).osrsT = s.osrsT := rfl
@[simp] theorem emit_osrsP (e : Event) (s : State) : (emit e s).osrsP = s.osrsP := rfl
@[simp] theorem emit_osrsH (e : Event) (s : State) : (emit e s).osrsH = s.osrsH := rfl
@[simp] theorem emit_sessionActive (e : Event) (s : State) : (emit e s).sessionActive = s.sessionActive := rfl
@[simp] theorem emit_sessionGen (e : Event) (s : State) : (emit e s).sessionGen = s.sessionGen := rfl
@[simp] theorem emit_pollD (e : Event) (s : State) : (emit e s).pollD = s.pollD := rfl
@[simp] theorem emit_pollTotal (e : Event) (s : State) : (emit e s).pollTotal = s.pollTotal := rfl
@[simp] theorem emit_pollReads (e : Event) (s : State) : (emit e s).pollReads = s.pollReads := rfl
@[simp] theorem emit_phase (e : Event) (s : State) : (emit e s).phase = s.phase := rfl
@[simp] theorem emit_sts (e : Event) (s : State) : (emit e s).sts = s.sts := rfl
@[simp] theorem emit_res (e : Event) (s : State) : (emit e s).res = s.res := rfl
@[simp] theorem emit_trace (e : Event) (s : State) : (emit e s).trace = s.trace ++ [e] := rfl
@[simp] theorem emit_port (e : Event) (s : State) : (emit e s).port = s.port := rfl
@[simp] theorem emit_answers (e : Event) (s : State) : (emit e s).answers = s.answers := rfl
@[simp] theorem emit_draws (e : Event) (s : State) : (emit e s).draws = s.draws := rfl
@[simp] theorem okAt_emit (e : Event) (s : State) (k : Nat) : okAt (emit e s) k = okAt s k := rfl
@[simp] theorem byteAt_emit (e : Event) (s : State) (k i : Nat) : byteAt (emit e s) k i = byteAt s k i := rfl
@[simp] theorem bytesAt_emit (e : Event) (n : Nat) (s : State) (k : Nat) :
    bytesAt n (emit e s) k = bytesAt n s k := rfl

/-! ## `cal_buf` (R121) -/

@[simp] theorem setCalBuf_calBuf (buf : Vector Byte 33) (s : State) : (setCalBuf buf s).calBuf = buf := rfl
@[simp] theorem setCalBuf_coef (buf : Vector Byte 33) (s : State) : (setCalBuf buf s).coef = s.coef := rfl
@[simp] theorem setCalBuf_isOpen (buf : Vector Byte 33) (s : State) : (setCalBuf buf s).isOpen = s.isOpen := rfl
@[simp] theorem setCalBuf_raw (buf : Vector Byte 33) (s : State) : (setCalBuf buf s).raw = s.raw := rfl
@[simp] theorem setCalBuf_rawValid (buf : Vector Byte 33) (s : State) : (setCalBuf buf s).rawValid = s.rawValid := rfl
@[simp] theorem setCalBuf_tFine (buf : Vector Byte 33) (s : State) : (setCalBuf buf s).tFine = s.tFine := rfl
@[simp] theorem setCalBuf_tfValid (buf : Vector Byte 33) (s : State) : (setCalBuf buf s).tfValid = s.tfValid := rfl
@[simp] theorem setCalBuf_mode (buf : Vector Byte 33) (s : State) : (setCalBuf buf s).mode = s.mode := rfl
@[simp] theorem setCalBuf_sb (buf : Vector Byte 33) (s : State) : (setCalBuf buf s).sb = s.sb := rfl
@[simp] theorem setCalBuf_osrsT (buf : Vector Byte 33) (s : State) : (setCalBuf buf s).osrsT = s.osrsT := rfl
@[simp] theorem setCalBuf_osrsP (buf : Vector Byte 33) (s : State) : (setCalBuf buf s).osrsP = s.osrsP := rfl
@[simp] theorem setCalBuf_osrsH (buf : Vector Byte 33) (s : State) : (setCalBuf buf s).osrsH = s.osrsH := rfl
@[simp] theorem setCalBuf_sessionActive (buf : Vector Byte 33) (s : State) : (setCalBuf buf s).sessionActive = s.sessionActive := rfl
@[simp] theorem setCalBuf_sessionGen (buf : Vector Byte 33) (s : State) : (setCalBuf buf s).sessionGen = s.sessionGen := rfl
@[simp] theorem setCalBuf_pollD (buf : Vector Byte 33) (s : State) : (setCalBuf buf s).pollD = s.pollD := rfl
@[simp] theorem setCalBuf_pollTotal (buf : Vector Byte 33) (s : State) : (setCalBuf buf s).pollTotal = s.pollTotal := rfl
@[simp] theorem setCalBuf_pollReads (buf : Vector Byte 33) (s : State) : (setCalBuf buf s).pollReads = s.pollReads := rfl
@[simp] theorem setCalBuf_phase (buf : Vector Byte 33) (s : State) : (setCalBuf buf s).phase = s.phase := rfl
@[simp] theorem setCalBuf_sts (buf : Vector Byte 33) (s : State) : (setCalBuf buf s).sts = s.sts := rfl
@[simp] theorem setCalBuf_res (buf : Vector Byte 33) (s : State) : (setCalBuf buf s).res = s.res := rfl
@[simp] theorem setCalBuf_trace (buf : Vector Byte 33) (s : State) : (setCalBuf buf s).trace = s.trace := rfl
@[simp] theorem setCalBuf_port (buf : Vector Byte 33) (s : State) : (setCalBuf buf s).port = s.port := rfl
@[simp] theorem setCalBuf_answers (buf : Vector Byte 33) (s : State) : (setCalBuf buf s).answers = s.answers := rfl
@[simp] theorem setCalBuf_draws (buf : Vector Byte 33) (s : State) : (setCalBuf buf s).draws = s.draws := rfl
@[simp] theorem okAt_setCalBuf (buf : Vector Byte 33) (s : State) (k : Nat) : okAt (setCalBuf buf s) k = okAt s k := rfl
@[simp] theorem byteAt_setCalBuf (buf : Vector Byte 33) (s : State) (k i : Nat) : byteAt (setCalBuf buf s) k i = byteAt s k i := rfl
@[simp] theorem bytesAt_setCalBuf (buf : Vector Byte 33) (n : Nat) (s : State) (k : Nat) :
    bytesAt n (setCalBuf buf s) k = bytesAt n s k := rfl

/-! ## The coefficients decoded (R121) -/

@[simp] theorem loadCoeffs_calBuf (s : State) : (loadCoeffs s).calBuf = s.calBuf := rfl
@[simp] theorem loadCoeffs_coef (s : State) : (loadCoeffs s).coef = decodeCal s.calBuf := rfl
@[simp] theorem loadCoeffs_isOpen (s : State) : (loadCoeffs s).isOpen = true := rfl
@[simp] theorem loadCoeffs_raw (s : State) : (loadCoeffs s).raw = s.raw := rfl
@[simp] theorem loadCoeffs_rawValid (s : State) : (loadCoeffs s).rawValid = false := rfl
@[simp] theorem loadCoeffs_tFine (s : State) : (loadCoeffs s).tFine = s.tFine := rfl
@[simp] theorem loadCoeffs_tfValid (s : State) : (loadCoeffs s).tfValid = false := rfl
@[simp] theorem loadCoeffs_mode (s : State) : (loadCoeffs s).mode = s.mode := rfl
@[simp] theorem loadCoeffs_sb (s : State) : (loadCoeffs s).sb = s.sb := rfl
@[simp] theorem loadCoeffs_osrsT (s : State) : (loadCoeffs s).osrsT = s.osrsT := rfl
@[simp] theorem loadCoeffs_osrsP (s : State) : (loadCoeffs s).osrsP = s.osrsP := rfl
@[simp] theorem loadCoeffs_osrsH (s : State) : (loadCoeffs s).osrsH = s.osrsH := rfl
@[simp] theorem loadCoeffs_sessionActive (s : State) : (loadCoeffs s).sessionActive = s.sessionActive := rfl
@[simp] theorem loadCoeffs_sessionGen (s : State) : (loadCoeffs s).sessionGen = s.sessionGen := rfl
@[simp] theorem loadCoeffs_pollD (s : State) : (loadCoeffs s).pollD = s.pollD := rfl
@[simp] theorem loadCoeffs_pollTotal (s : State) : (loadCoeffs s).pollTotal = s.pollTotal := rfl
@[simp] theorem loadCoeffs_pollReads (s : State) : (loadCoeffs s).pollReads = s.pollReads := rfl
@[simp] theorem loadCoeffs_phase (s : State) : (loadCoeffs s).phase = s.phase := rfl
@[simp] theorem loadCoeffs_sts (s : State) : (loadCoeffs s).sts = s.sts := rfl
@[simp] theorem loadCoeffs_res (s : State) : (loadCoeffs s).res = s.res := rfl
@[simp] theorem loadCoeffs_trace (s : State) : (loadCoeffs s).trace = s.trace := rfl
@[simp] theorem loadCoeffs_port (s : State) : (loadCoeffs s).port = s.port := rfl
@[simp] theorem loadCoeffs_answers (s : State) : (loadCoeffs s).answers = s.answers := rfl
@[simp] theorem loadCoeffs_draws (s : State) : (loadCoeffs s).draws = s.draws := rfl
@[simp] theorem okAt_loadCoeffs (s : State) (k : Nat) : okAt (loadCoeffs s) k = okAt s k := rfl
@[simp] theorem byteAt_loadCoeffs (s : State) (k i : Nat) : byteAt (loadCoeffs s) k i = byteAt s k i := rfl
@[simp] theorem bytesAt_loadCoeffs (n : Nat) (s : State) (k : Nat) :
    bytesAt n (loadCoeffs s) k = bytesAt n s k := rfl

/-! ## The validity flags cleared (R121, R148) -/

@[simp] theorem clearValidity_calBuf (s : State) : (clearValidity s).calBuf = s.calBuf := rfl
@[simp] theorem clearValidity_coef (s : State) : (clearValidity s).coef = s.coef := rfl
@[simp] theorem clearValidity_isOpen (s : State) : (clearValidity s).isOpen = false := rfl
@[simp] theorem clearValidity_raw (s : State) : (clearValidity s).raw = s.raw := rfl
@[simp] theorem clearValidity_rawValid (s : State) : (clearValidity s).rawValid = false := rfl
@[simp] theorem clearValidity_tFine (s : State) : (clearValidity s).tFine = s.tFine := rfl
@[simp] theorem clearValidity_tfValid (s : State) : (clearValidity s).tfValid = false := rfl
@[simp] theorem clearValidity_mode (s : State) : (clearValidity s).mode = s.mode := rfl
@[simp] theorem clearValidity_sb (s : State) : (clearValidity s).sb = s.sb := rfl
@[simp] theorem clearValidity_osrsT (s : State) : (clearValidity s).osrsT = s.osrsT := rfl
@[simp] theorem clearValidity_osrsP (s : State) : (clearValidity s).osrsP = s.osrsP := rfl
@[simp] theorem clearValidity_osrsH (s : State) : (clearValidity s).osrsH = s.osrsH := rfl
@[simp] theorem clearValidity_sessionActive (s : State) : (clearValidity s).sessionActive = s.sessionActive := rfl
@[simp] theorem clearValidity_sessionGen (s : State) : (clearValidity s).sessionGen = s.sessionGen := rfl
@[simp] theorem clearValidity_pollD (s : State) : (clearValidity s).pollD = s.pollD := rfl
@[simp] theorem clearValidity_pollTotal (s : State) : (clearValidity s).pollTotal = s.pollTotal := rfl
@[simp] theorem clearValidity_pollReads (s : State) : (clearValidity s).pollReads = s.pollReads := rfl
@[simp] theorem clearValidity_phase (s : State) : (clearValidity s).phase = s.phase := rfl
@[simp] theorem clearValidity_sts (s : State) : (clearValidity s).sts = s.sts := rfl
@[simp] theorem clearValidity_res (s : State) : (clearValidity s).res = s.res := rfl
@[simp] theorem clearValidity_trace (s : State) : (clearValidity s).trace = s.trace := rfl
@[simp] theorem clearValidity_port (s : State) : (clearValidity s).port = s.port := rfl
@[simp] theorem clearValidity_answers (s : State) : (clearValidity s).answers = s.answers := rfl
@[simp] theorem clearValidity_draws (s : State) : (clearValidity s).draws = s.draws := rfl
@[simp] theorem okAt_clearValidity (s : State) (k : Nat) : okAt (clearValidity s) k = okAt s k := rfl
@[simp] theorem byteAt_clearValidity (s : State) (k i : Nat) : byteAt (clearValidity s) k i = byteAt s k i := rfl
@[simp] theorem bytesAt_clearValidity (n : Nat) (s : State) (k : Nat) :
    bytesAt n (clearValidity s) k = bytesAt n s k := rfl

/-! ## `osrs_h` (R142) -/

@[simp] theorem setOsrsH_calBuf (oh : BitVec 3) (s : State) : (setOsrsH oh s).calBuf = s.calBuf := rfl
@[simp] theorem setOsrsH_coef (oh : BitVec 3) (s : State) : (setOsrsH oh s).coef = s.coef := rfl
@[simp] theorem setOsrsH_isOpen (oh : BitVec 3) (s : State) : (setOsrsH oh s).isOpen = s.isOpen := rfl
@[simp] theorem setOsrsH_raw (oh : BitVec 3) (s : State) : (setOsrsH oh s).raw = s.raw := rfl
@[simp] theorem setOsrsH_rawValid (oh : BitVec 3) (s : State) : (setOsrsH oh s).rawValid = s.rawValid := rfl
@[simp] theorem setOsrsH_tFine (oh : BitVec 3) (s : State) : (setOsrsH oh s).tFine = s.tFine := rfl
@[simp] theorem setOsrsH_tfValid (oh : BitVec 3) (s : State) : (setOsrsH oh s).tfValid = s.tfValid := rfl
@[simp] theorem setOsrsH_mode (oh : BitVec 3) (s : State) : (setOsrsH oh s).mode = s.mode := rfl
@[simp] theorem setOsrsH_sb (oh : BitVec 3) (s : State) : (setOsrsH oh s).sb = s.sb := rfl
@[simp] theorem setOsrsH_osrsT (oh : BitVec 3) (s : State) : (setOsrsH oh s).osrsT = s.osrsT := rfl
@[simp] theorem setOsrsH_osrsP (oh : BitVec 3) (s : State) : (setOsrsH oh s).osrsP = s.osrsP := rfl
@[simp] theorem setOsrsH_osrsH (oh : BitVec 3) (s : State) : (setOsrsH oh s).osrsH = oh := rfl
@[simp] theorem setOsrsH_sessionActive (oh : BitVec 3) (s : State) : (setOsrsH oh s).sessionActive = s.sessionActive := rfl
@[simp] theorem setOsrsH_sessionGen (oh : BitVec 3) (s : State) : (setOsrsH oh s).sessionGen = s.sessionGen := rfl
@[simp] theorem setOsrsH_pollD (oh : BitVec 3) (s : State) : (setOsrsH oh s).pollD = s.pollD := rfl
@[simp] theorem setOsrsH_pollTotal (oh : BitVec 3) (s : State) : (setOsrsH oh s).pollTotal = s.pollTotal := rfl
@[simp] theorem setOsrsH_pollReads (oh : BitVec 3) (s : State) : (setOsrsH oh s).pollReads = s.pollReads := rfl
@[simp] theorem setOsrsH_phase (oh : BitVec 3) (s : State) : (setOsrsH oh s).phase = s.phase := rfl
@[simp] theorem setOsrsH_sts (oh : BitVec 3) (s : State) : (setOsrsH oh s).sts = s.sts := rfl
@[simp] theorem setOsrsH_res (oh : BitVec 3) (s : State) : (setOsrsH oh s).res = s.res := rfl
@[simp] theorem setOsrsH_trace (oh : BitVec 3) (s : State) : (setOsrsH oh s).trace = s.trace := rfl
@[simp] theorem setOsrsH_port (oh : BitVec 3) (s : State) : (setOsrsH oh s).port = s.port := rfl
@[simp] theorem setOsrsH_answers (oh : BitVec 3) (s : State) : (setOsrsH oh s).answers = s.answers := rfl
@[simp] theorem setOsrsH_draws (oh : BitVec 3) (s : State) : (setOsrsH oh s).draws = s.draws := rfl
@[simp] theorem okAt_setOsrsH (oh : BitVec 3) (s : State) (k : Nat) : okAt (setOsrsH oh s) k = okAt s k := rfl
@[simp] theorem byteAt_setOsrsH (oh : BitVec 3) (s : State) (k i : Nat) : byteAt (setOsrsH oh s) k i = byteAt s k i := rfl
@[simp] theorem bytesAt_setOsrsH (oh : BitVec 3) (n : Nat) (s : State) (k : Nat) :
    bytesAt n (setOsrsH oh s) k = bytesAt n s k := rfl

/-! ## `osrs_t`, `osrs_p` (R142) -/

@[simp] theorem setOsrsTP_calBuf (ot op : BitVec 3) (s : State) : (setOsrsTP ot op s).calBuf = s.calBuf := rfl
@[simp] theorem setOsrsTP_coef (ot op : BitVec 3) (s : State) : (setOsrsTP ot op s).coef = s.coef := rfl
@[simp] theorem setOsrsTP_isOpen (ot op : BitVec 3) (s : State) : (setOsrsTP ot op s).isOpen = s.isOpen := rfl
@[simp] theorem setOsrsTP_raw (ot op : BitVec 3) (s : State) : (setOsrsTP ot op s).raw = s.raw := rfl
@[simp] theorem setOsrsTP_rawValid (ot op : BitVec 3) (s : State) : (setOsrsTP ot op s).rawValid = s.rawValid := rfl
@[simp] theorem setOsrsTP_tFine (ot op : BitVec 3) (s : State) : (setOsrsTP ot op s).tFine = s.tFine := rfl
@[simp] theorem setOsrsTP_tfValid (ot op : BitVec 3) (s : State) : (setOsrsTP ot op s).tfValid = s.tfValid := rfl
@[simp] theorem setOsrsTP_mode (ot op : BitVec 3) (s : State) : (setOsrsTP ot op s).mode = s.mode := rfl
@[simp] theorem setOsrsTP_sb (ot op : BitVec 3) (s : State) : (setOsrsTP ot op s).sb = s.sb := rfl
@[simp] theorem setOsrsTP_osrsT (ot op : BitVec 3) (s : State) : (setOsrsTP ot op s).osrsT = ot := rfl
@[simp] theorem setOsrsTP_osrsP (ot op : BitVec 3) (s : State) : (setOsrsTP ot op s).osrsP = op := rfl
@[simp] theorem setOsrsTP_osrsH (ot op : BitVec 3) (s : State) : (setOsrsTP ot op s).osrsH = s.osrsH := rfl
@[simp] theorem setOsrsTP_sessionActive (ot op : BitVec 3) (s : State) : (setOsrsTP ot op s).sessionActive = s.sessionActive := rfl
@[simp] theorem setOsrsTP_sessionGen (ot op : BitVec 3) (s : State) : (setOsrsTP ot op s).sessionGen = s.sessionGen := rfl
@[simp] theorem setOsrsTP_pollD (ot op : BitVec 3) (s : State) : (setOsrsTP ot op s).pollD = s.pollD := rfl
@[simp] theorem setOsrsTP_pollTotal (ot op : BitVec 3) (s : State) : (setOsrsTP ot op s).pollTotal = s.pollTotal := rfl
@[simp] theorem setOsrsTP_pollReads (ot op : BitVec 3) (s : State) : (setOsrsTP ot op s).pollReads = s.pollReads := rfl
@[simp] theorem setOsrsTP_phase (ot op : BitVec 3) (s : State) : (setOsrsTP ot op s).phase = s.phase := rfl
@[simp] theorem setOsrsTP_sts (ot op : BitVec 3) (s : State) : (setOsrsTP ot op s).sts = s.sts := rfl
@[simp] theorem setOsrsTP_res (ot op : BitVec 3) (s : State) : (setOsrsTP ot op s).res = s.res := rfl
@[simp] theorem setOsrsTP_trace (ot op : BitVec 3) (s : State) : (setOsrsTP ot op s).trace = s.trace := rfl
@[simp] theorem setOsrsTP_port (ot op : BitVec 3) (s : State) : (setOsrsTP ot op s).port = s.port := rfl
@[simp] theorem setOsrsTP_answers (ot op : BitVec 3) (s : State) : (setOsrsTP ot op s).answers = s.answers := rfl
@[simp] theorem setOsrsTP_draws (ot op : BitVec 3) (s : State) : (setOsrsTP ot op s).draws = s.draws := rfl
@[simp] theorem okAt_setOsrsTP (ot op : BitVec 3) (s : State) (k : Nat) : okAt (setOsrsTP ot op s) k = okAt s k := rfl
@[simp] theorem byteAt_setOsrsTP (ot op : BitVec 3) (s : State) (k i : Nat) : byteAt (setOsrsTP ot op s) k i = byteAt s k i := rfl
@[simp] theorem bytesAt_setOsrsTP (ot op : BitVec 3) (n : Nat) (s : State) (k : Nat) :
    bytesAt n (setOsrsTP ot op s) k = bytesAt n s k := rfl

/-! ## `sb` (R144) -/

@[simp] theorem setSb_calBuf (sb : BitVec 3) (s : State) : (setSb sb s).calBuf = s.calBuf := rfl
@[simp] theorem setSb_coef (sb : BitVec 3) (s : State) : (setSb sb s).coef = s.coef := rfl
@[simp] theorem setSb_isOpen (sb : BitVec 3) (s : State) : (setSb sb s).isOpen = s.isOpen := rfl
@[simp] theorem setSb_raw (sb : BitVec 3) (s : State) : (setSb sb s).raw = s.raw := rfl
@[simp] theorem setSb_rawValid (sb : BitVec 3) (s : State) : (setSb sb s).rawValid = s.rawValid := rfl
@[simp] theorem setSb_tFine (sb : BitVec 3) (s : State) : (setSb sb s).tFine = s.tFine := rfl
@[simp] theorem setSb_tfValid (sb : BitVec 3) (s : State) : (setSb sb s).tfValid = s.tfValid := rfl
@[simp] theorem setSb_mode (sb : BitVec 3) (s : State) : (setSb sb s).mode = s.mode := rfl
@[simp] theorem setSb_sb (sb : BitVec 3) (s : State) : (setSb sb s).sb = sb := rfl
@[simp] theorem setSb_osrsT (sb : BitVec 3) (s : State) : (setSb sb s).osrsT = s.osrsT := rfl
@[simp] theorem setSb_osrsP (sb : BitVec 3) (s : State) : (setSb sb s).osrsP = s.osrsP := rfl
@[simp] theorem setSb_osrsH (sb : BitVec 3) (s : State) : (setSb sb s).osrsH = s.osrsH := rfl
@[simp] theorem setSb_sessionActive (sb : BitVec 3) (s : State) : (setSb sb s).sessionActive = s.sessionActive := rfl
@[simp] theorem setSb_sessionGen (sb : BitVec 3) (s : State) : (setSb sb s).sessionGen = s.sessionGen := rfl
@[simp] theorem setSb_pollD (sb : BitVec 3) (s : State) : (setSb sb s).pollD = s.pollD := rfl
@[simp] theorem setSb_pollTotal (sb : BitVec 3) (s : State) : (setSb sb s).pollTotal = s.pollTotal := rfl
@[simp] theorem setSb_pollReads (sb : BitVec 3) (s : State) : (setSb sb s).pollReads = s.pollReads := rfl
@[simp] theorem setSb_phase (sb : BitVec 3) (s : State) : (setSb sb s).phase = s.phase := rfl
@[simp] theorem setSb_sts (sb : BitVec 3) (s : State) : (setSb sb s).sts = s.sts := rfl
@[simp] theorem setSb_res (sb : BitVec 3) (s : State) : (setSb sb s).res = s.res := rfl
@[simp] theorem setSb_trace (sb : BitVec 3) (s : State) : (setSb sb s).trace = s.trace := rfl
@[simp] theorem setSb_port (sb : BitVec 3) (s : State) : (setSb sb s).port = s.port := rfl
@[simp] theorem setSb_answers (sb : BitVec 3) (s : State) : (setSb sb s).answers = s.answers := rfl
@[simp] theorem setSb_draws (sb : BitVec 3) (s : State) : (setSb sb s).draws = s.draws := rfl
@[simp] theorem okAt_setSb (sb : BitVec 3) (s : State) (k : Nat) : okAt (setSb sb s) k = okAt s k := rfl
@[simp] theorem byteAt_setSb (sb : BitVec 3) (s : State) (k i : Nat) : byteAt (setSb sb s) k i = byteAt s k i := rfl
@[simp] theorem bytesAt_setSb (sb : BitVec 3) (n : Nat) (s : State) (k : Nat) :
    bytesAt n (setSb sb s) k = bytesAt n s k := rfl

/-! ## `mode` -/

@[simp] theorem setMode_calBuf (m : BitVec 2) (s : State) : (setMode m s).calBuf = s.calBuf := rfl
@[simp] theorem setMode_coef (m : BitVec 2) (s : State) : (setMode m s).coef = s.coef := rfl
@[simp] theorem setMode_isOpen (m : BitVec 2) (s : State) : (setMode m s).isOpen = s.isOpen := rfl
@[simp] theorem setMode_raw (m : BitVec 2) (s : State) : (setMode m s).raw = s.raw := rfl
@[simp] theorem setMode_rawValid (m : BitVec 2) (s : State) : (setMode m s).rawValid = s.rawValid := rfl
@[simp] theorem setMode_tFine (m : BitVec 2) (s : State) : (setMode m s).tFine = s.tFine := rfl
@[simp] theorem setMode_tfValid (m : BitVec 2) (s : State) : (setMode m s).tfValid = s.tfValid := rfl
@[simp] theorem setMode_mode (m : BitVec 2) (s : State) : (setMode m s).mode = m := rfl
@[simp] theorem setMode_sb (m : BitVec 2) (s : State) : (setMode m s).sb = s.sb := rfl
@[simp] theorem setMode_osrsT (m : BitVec 2) (s : State) : (setMode m s).osrsT = s.osrsT := rfl
@[simp] theorem setMode_osrsP (m : BitVec 2) (s : State) : (setMode m s).osrsP = s.osrsP := rfl
@[simp] theorem setMode_osrsH (m : BitVec 2) (s : State) : (setMode m s).osrsH = s.osrsH := rfl
@[simp] theorem setMode_sessionActive (m : BitVec 2) (s : State) : (setMode m s).sessionActive = s.sessionActive := rfl
@[simp] theorem setMode_sessionGen (m : BitVec 2) (s : State) : (setMode m s).sessionGen = s.sessionGen := rfl
@[simp] theorem setMode_pollD (m : BitVec 2) (s : State) : (setMode m s).pollD = s.pollD := rfl
@[simp] theorem setMode_pollTotal (m : BitVec 2) (s : State) : (setMode m s).pollTotal = s.pollTotal := rfl
@[simp] theorem setMode_pollReads (m : BitVec 2) (s : State) : (setMode m s).pollReads = s.pollReads := rfl
@[simp] theorem setMode_phase (m : BitVec 2) (s : State) : (setMode m s).phase = s.phase := rfl
@[simp] theorem setMode_sts (m : BitVec 2) (s : State) : (setMode m s).sts = s.sts := rfl
@[simp] theorem setMode_res (m : BitVec 2) (s : State) : (setMode m s).res = s.res := rfl
@[simp] theorem setMode_trace (m : BitVec 2) (s : State) : (setMode m s).trace = s.trace := rfl
@[simp] theorem setMode_port (m : BitVec 2) (s : State) : (setMode m s).port = s.port := rfl
@[simp] theorem setMode_answers (m : BitVec 2) (s : State) : (setMode m s).answers = s.answers := rfl
@[simp] theorem setMode_draws (m : BitVec 2) (s : State) : (setMode m s).draws = s.draws := rfl
@[simp] theorem okAt_setMode (m : BitVec 2) (s : State) (k : Nat) : okAt (setMode m s) k = okAt s k := rfl
@[simp] theorem byteAt_setMode (m : BitVec 2) (s : State) (k i : Nat) : byteAt (setMode m s) k i = byteAt s k i := rfl
@[simp] theorem bytesAt_setMode (m : BitVec 2) (n : Nat) (s : State) (k : Nat) :
    bytesAt n (setMode m s) k = bytesAt n s k := rfl

/-! ## The session starts (R144) -/

@[simp] theorem startSession_calBuf (s : State) : (startSession s).calBuf = s.calBuf := rfl
@[simp] theorem startSession_coef (s : State) : (startSession s).coef = s.coef := rfl
@[simp] theorem startSession_isOpen (s : State) : (startSession s).isOpen = s.isOpen := rfl
@[simp] theorem startSession_raw (s : State) : (startSession s).raw = s.raw := rfl
@[simp] theorem startSession_rawValid (s : State) : (startSession s).rawValid = s.rawValid := rfl
@[simp] theorem startSession_tFine (s : State) : (startSession s).tFine = s.tFine := rfl
@[simp] theorem startSession_tfValid (s : State) : (startSession s).tfValid = s.tfValid := rfl
@[simp] theorem startSession_mode (s : State) : (startSession s).mode = s.mode := rfl
@[simp] theorem startSession_sb (s : State) : (startSession s).sb = s.sb := rfl
@[simp] theorem startSession_osrsT (s : State) : (startSession s).osrsT = s.osrsT := rfl
@[simp] theorem startSession_osrsP (s : State) : (startSession s).osrsP = s.osrsP := rfl
@[simp] theorem startSession_osrsH (s : State) : (startSession s).osrsH = s.osrsH := rfl
@[simp] theorem startSession_sessionActive (s : State) : (startSession s).sessionActive = true := rfl
@[simp] theorem startSession_sessionGen (s : State) : (startSession s).sessionGen = s.sessionGen + 1 := rfl
@[simp] theorem startSession_pollD (s : State) : (startSession s).pollD = s.pollD := rfl
@[simp] theorem startSession_pollTotal (s : State) : (startSession s).pollTotal = s.pollTotal := rfl
@[simp] theorem startSession_pollReads (s : State) : (startSession s).pollReads = s.pollReads := rfl
@[simp] theorem startSession_phase (s : State) : (startSession s).phase = s.phase := rfl
@[simp] theorem startSession_sts (s : State) : (startSession s).sts = s.sts := rfl
@[simp] theorem startSession_res (s : State) : (startSession s).res = s.res := rfl
@[simp] theorem startSession_trace (s : State) : (startSession s).trace = s.trace := rfl
@[simp] theorem startSession_port (s : State) : (startSession s).port = s.port := rfl
@[simp] theorem startSession_answers (s : State) : (startSession s).answers = s.answers := rfl
@[simp] theorem startSession_draws (s : State) : (startSession s).draws = s.draws := rfl
@[simp] theorem okAt_startSession (s : State) (k : Nat) : okAt (startSession s) k = okAt s k := rfl
@[simp] theorem byteAt_startSession (s : State) (k i : Nat) : byteAt (startSession s) k i = byteAt s k i := rfl
@[simp] theorem bytesAt_startSession (n : Nat) (s : State) (k : Nat) :
    bytesAt n (startSession s) k = bytesAt n s k := rfl

/-! ## The session ends (R146, R148) -/

@[simp] theorem endSession_calBuf (s : State) : (endSession s).calBuf = s.calBuf := rfl
@[simp] theorem endSession_coef (s : State) : (endSession s).coef = s.coef := rfl
@[simp] theorem endSession_isOpen (s : State) : (endSession s).isOpen = s.isOpen := rfl
@[simp] theorem endSession_raw (s : State) : (endSession s).raw = s.raw := rfl
@[simp] theorem endSession_rawValid (s : State) : (endSession s).rawValid = s.rawValid := rfl
@[simp] theorem endSession_tFine (s : State) : (endSession s).tFine = s.tFine := rfl
@[simp] theorem endSession_tfValid (s : State) : (endSession s).tfValid = s.tfValid := rfl
@[simp] theorem endSession_mode (s : State) : (endSession s).mode = s.mode := rfl
@[simp] theorem endSession_sb (s : State) : (endSession s).sb = s.sb := rfl
@[simp] theorem endSession_osrsT (s : State) : (endSession s).osrsT = s.osrsT := rfl
@[simp] theorem endSession_osrsP (s : State) : (endSession s).osrsP = s.osrsP := rfl
@[simp] theorem endSession_osrsH (s : State) : (endSession s).osrsH = s.osrsH := rfl
@[simp] theorem endSession_sessionActive (s : State) : (endSession s).sessionActive = false := rfl
@[simp] theorem endSession_sessionGen (s : State) : (endSession s).sessionGen = s.sessionGen := rfl
@[simp] theorem endSession_pollD (s : State) : (endSession s).pollD = s.pollD := rfl
@[simp] theorem endSession_pollTotal (s : State) : (endSession s).pollTotal = s.pollTotal := rfl
@[simp] theorem endSession_pollReads (s : State) : (endSession s).pollReads = s.pollReads := rfl
@[simp] theorem endSession_phase (s : State) : (endSession s).phase = s.phase := rfl
@[simp] theorem endSession_sts (s : State) : (endSession s).sts = s.sts := rfl
@[simp] theorem endSession_res (s : State) : (endSession s).res = s.res := rfl
@[simp] theorem endSession_trace (s : State) : (endSession s).trace = s.trace := rfl
@[simp] theorem endSession_port (s : State) : (endSession s).port = s.port := rfl
@[simp] theorem endSession_answers (s : State) : (endSession s).answers = s.answers := rfl
@[simp] theorem endSession_draws (s : State) : (endSession s).draws = s.draws := rfl
@[simp] theorem okAt_endSession (s : State) (k : Nat) : okAt (endSession s) k = okAt s k := rfl
@[simp] theorem byteAt_endSession (s : State) (k i : Nat) : byteAt (endSession s) k i = byteAt s k i := rfl
@[simp] theorem bytesAt_endSession (n : Nat) (s : State) (k : Nat) :
    bytesAt n (endSession s) k = bytesAt n s k := rfl

/-! ## `t_fine` (R193) -/

@[simp] theorem setTFine_calBuf (tf : BitVec 32) (s : State) : (setTFine tf s).calBuf = s.calBuf := rfl
@[simp] theorem setTFine_coef (tf : BitVec 32) (s : State) : (setTFine tf s).coef = s.coef := rfl
@[simp] theorem setTFine_isOpen (tf : BitVec 32) (s : State) : (setTFine tf s).isOpen = s.isOpen := rfl
@[simp] theorem setTFine_raw (tf : BitVec 32) (s : State) : (setTFine tf s).raw = s.raw := rfl
@[simp] theorem setTFine_rawValid (tf : BitVec 32) (s : State) : (setTFine tf s).rawValid = s.rawValid := rfl
@[simp] theorem setTFine_tFine (tf : BitVec 32) (s : State) : (setTFine tf s).tFine = tf := rfl
@[simp] theorem setTFine_tfValid (tf : BitVec 32) (s : State) : (setTFine tf s).tfValid = true := rfl
@[simp] theorem setTFine_mode (tf : BitVec 32) (s : State) : (setTFine tf s).mode = s.mode := rfl
@[simp] theorem setTFine_sb (tf : BitVec 32) (s : State) : (setTFine tf s).sb = s.sb := rfl
@[simp] theorem setTFine_osrsT (tf : BitVec 32) (s : State) : (setTFine tf s).osrsT = s.osrsT := rfl
@[simp] theorem setTFine_osrsP (tf : BitVec 32) (s : State) : (setTFine tf s).osrsP = s.osrsP := rfl
@[simp] theorem setTFine_osrsH (tf : BitVec 32) (s : State) : (setTFine tf s).osrsH = s.osrsH := rfl
@[simp] theorem setTFine_sessionActive (tf : BitVec 32) (s : State) : (setTFine tf s).sessionActive = s.sessionActive := rfl
@[simp] theorem setTFine_sessionGen (tf : BitVec 32) (s : State) : (setTFine tf s).sessionGen = s.sessionGen := rfl
@[simp] theorem setTFine_pollD (tf : BitVec 32) (s : State) : (setTFine tf s).pollD = s.pollD := rfl
@[simp] theorem setTFine_pollTotal (tf : BitVec 32) (s : State) : (setTFine tf s).pollTotal = s.pollTotal := rfl
@[simp] theorem setTFine_pollReads (tf : BitVec 32) (s : State) : (setTFine tf s).pollReads = s.pollReads := rfl
@[simp] theorem setTFine_phase (tf : BitVec 32) (s : State) : (setTFine tf s).phase = s.phase := rfl
@[simp] theorem setTFine_sts (tf : BitVec 32) (s : State) : (setTFine tf s).sts = s.sts := rfl
@[simp] theorem setTFine_res (tf : BitVec 32) (s : State) : (setTFine tf s).res = s.res := rfl
@[simp] theorem setTFine_trace (tf : BitVec 32) (s : State) : (setTFine tf s).trace = s.trace := rfl
@[simp] theorem setTFine_port (tf : BitVec 32) (s : State) : (setTFine tf s).port = s.port := rfl
@[simp] theorem setTFine_answers (tf : BitVec 32) (s : State) : (setTFine tf s).answers = s.answers := rfl
@[simp] theorem setTFine_draws (tf : BitVec 32) (s : State) : (setTFine tf s).draws = s.draws := rfl
@[simp] theorem okAt_setTFine (tf : BitVec 32) (s : State) (k : Nat) : okAt (setTFine tf s) k = okAt s k := rfl
@[simp] theorem byteAt_setTFine (tf : BitVec 32) (s : State) (k i : Nat) : byteAt (setTFine tf s) k i = byteAt s k i := rfl
@[simp] theorem bytesAt_setTFine (tf : BitVec 32) (n : Nat) (s : State) (k : Nat) :
    bytesAt n (setTFine tf s) k = bytesAt n s k := rfl

/-! ## A sample taken (R181) -/

@[simp] theorem takeSample_calBuf (b : Vector Byte Config.lenData) (s : State) : (takeSample b s).calBuf = s.calBuf := rfl
@[simp] theorem takeSample_coef (b : Vector Byte Config.lenData) (s : State) : (takeSample b s).coef = s.coef := rfl
@[simp] theorem takeSample_isOpen (b : Vector Byte Config.lenData) (s : State) : (takeSample b s).isOpen = s.isOpen := rfl
@[simp] theorem takeSample_raw (b : Vector Byte Config.lenData) (s : State) : (takeSample b s).raw = fanOut b := rfl
@[simp] theorem takeSample_rawValid (b : Vector Byte Config.lenData) (s : State) : (takeSample b s).rawValid = true := rfl
@[simp] theorem takeSample_tFine (b : Vector Byte Config.lenData) (s : State) : (takeSample b s).tFine = s.tFine := rfl
@[simp] theorem takeSample_tfValid (b : Vector Byte Config.lenData) (s : State) : (takeSample b s).tfValid = false := rfl
@[simp] theorem takeSample_mode (b : Vector Byte Config.lenData) (s : State) : (takeSample b s).mode = s.mode := rfl
@[simp] theorem takeSample_sb (b : Vector Byte Config.lenData) (s : State) : (takeSample b s).sb = s.sb := rfl
@[simp] theorem takeSample_osrsT (b : Vector Byte Config.lenData) (s : State) : (takeSample b s).osrsT = s.osrsT := rfl
@[simp] theorem takeSample_osrsP (b : Vector Byte Config.lenData) (s : State) : (takeSample b s).osrsP = s.osrsP := rfl
@[simp] theorem takeSample_osrsH (b : Vector Byte Config.lenData) (s : State) : (takeSample b s).osrsH = s.osrsH := rfl
@[simp] theorem takeSample_sessionActive (b : Vector Byte Config.lenData) (s : State) : (takeSample b s).sessionActive = s.sessionActive := rfl
@[simp] theorem takeSample_sessionGen (b : Vector Byte Config.lenData) (s : State) : (takeSample b s).sessionGen = s.sessionGen := rfl
@[simp] theorem takeSample_pollD (b : Vector Byte Config.lenData) (s : State) : (takeSample b s).pollD = s.pollD := rfl
@[simp] theorem takeSample_pollTotal (b : Vector Byte Config.lenData) (s : State) : (takeSample b s).pollTotal = s.pollTotal := rfl
@[simp] theorem takeSample_pollReads (b : Vector Byte Config.lenData) (s : State) : (takeSample b s).pollReads = s.pollReads := rfl
@[simp] theorem takeSample_phase (b : Vector Byte Config.lenData) (s : State) : (takeSample b s).phase = s.phase := rfl
@[simp] theorem takeSample_sts (b : Vector Byte Config.lenData) (s : State) : (takeSample b s).sts = s.sts := rfl
@[simp] theorem takeSample_res (b : Vector Byte Config.lenData) (s : State) : (takeSample b s).res = s.res := rfl
@[simp] theorem takeSample_trace (b : Vector Byte Config.lenData) (s : State) : (takeSample b s).trace = s.trace := rfl
@[simp] theorem takeSample_port (b : Vector Byte Config.lenData) (s : State) : (takeSample b s).port = s.port := rfl
@[simp] theorem takeSample_answers (b : Vector Byte Config.lenData) (s : State) : (takeSample b s).answers = s.answers := rfl
@[simp] theorem takeSample_draws (b : Vector Byte Config.lenData) (s : State) : (takeSample b s).draws = s.draws := rfl
@[simp] theorem okAt_takeSample (b : Vector Byte Config.lenData) (s : State) (k : Nat) : okAt (takeSample b s) k = okAt s k := rfl
@[simp] theorem byteAt_takeSample (b : Vector Byte Config.lenData) (s : State) (k i : Nat) : byteAt (takeSample b s) k i = byteAt s k i := rfl
@[simp] theorem bytesAt_takeSample (b : Vector Byte Config.lenData) (n : Nat) (s : State) (k : Nat) :
    bytesAt n (takeSample b s) k = bytesAt n s k := rfl

/-! ## The poll registers started (R150) -/

@[simp] theorem pollStart_calBuf (s : State) : (pollStart s).calBuf = s.calBuf := rfl
@[simp] theorem pollStart_coef (s : State) : (pollStart s).coef = s.coef := rfl
@[simp] theorem pollStart_isOpen (s : State) : (pollStart s).isOpen = s.isOpen := rfl
@[simp] theorem pollStart_raw (s : State) : (pollStart s).raw = s.raw := rfl
@[simp] theorem pollStart_rawValid (s : State) : (pollStart s).rawValid = s.rawValid := rfl
@[simp] theorem pollStart_tFine (s : State) : (pollStart s).tFine = s.tFine := rfl
@[simp] theorem pollStart_tfValid (s : State) : (pollStart s).tfValid = s.tfValid := rfl
@[simp] theorem pollStart_mode (s : State) : (pollStart s).mode = s.mode := rfl
@[simp] theorem pollStart_sb (s : State) : (pollStart s).sb = s.sb := rfl
@[simp] theorem pollStart_osrsT (s : State) : (pollStart s).osrsT = s.osrsT := rfl
@[simp] theorem pollStart_osrsP (s : State) : (pollStart s).osrsP = s.osrsP := rfl
@[simp] theorem pollStart_osrsH (s : State) : (pollStart s).osrsH = s.osrsH := rfl
@[simp] theorem pollStart_sessionActive (s : State) : (pollStart s).sessionActive = s.sessionActive := rfl
@[simp] theorem pollStart_sessionGen (s : State) : (pollStart s).sessionGen = s.sessionGen := rfl
@[simp] theorem pollStart_pollD (s : State) : (pollStart s).pollD = BitVec.ofNat 16 Config.pollD0 := rfl
@[simp] theorem pollStart_pollTotal (s : State) : (pollStart s).pollTotal = 0 := rfl
@[simp] theorem pollStart_pollReads (s : State) : (pollStart s).pollReads = 0 := rfl
@[simp] theorem pollStart_phase (s : State) : (pollStart s).phase = s.phase := rfl
@[simp] theorem pollStart_sts (s : State) : (pollStart s).sts = s.sts := rfl
@[simp] theorem pollStart_res (s : State) : (pollStart s).res = s.res := rfl
@[simp] theorem pollStart_trace (s : State) : (pollStart s).trace = s.trace := rfl
@[simp] theorem pollStart_port (s : State) : (pollStart s).port = s.port := rfl
@[simp] theorem pollStart_answers (s : State) : (pollStart s).answers = s.answers := rfl
@[simp] theorem pollStart_draws (s : State) : (pollStart s).draws = s.draws := rfl
@[simp] theorem okAt_pollStart (s : State) (k : Nat) : okAt (pollStart s) k = okAt s k := rfl
@[simp] theorem byteAt_pollStart (s : State) (k i : Nat) : byteAt (pollStart s) k i = byteAt s k i := rfl
@[simp] theorem bytesAt_pollStart (n : Nat) (s : State) (k : Nat) :
    bytesAt n (pollStart s) k = bytesAt n s k := rfl

/-! ## A status read counted (R150) -/

@[simp] theorem countRead_calBuf (s : State) : (countRead s).calBuf = s.calBuf := rfl
@[simp] theorem countRead_coef (s : State) : (countRead s).coef = s.coef := rfl
@[simp] theorem countRead_isOpen (s : State) : (countRead s).isOpen = s.isOpen := rfl
@[simp] theorem countRead_raw (s : State) : (countRead s).raw = s.raw := rfl
@[simp] theorem countRead_rawValid (s : State) : (countRead s).rawValid = s.rawValid := rfl
@[simp] theorem countRead_tFine (s : State) : (countRead s).tFine = s.tFine := rfl
@[simp] theorem countRead_tfValid (s : State) : (countRead s).tfValid = s.tfValid := rfl
@[simp] theorem countRead_mode (s : State) : (countRead s).mode = s.mode := rfl
@[simp] theorem countRead_sb (s : State) : (countRead s).sb = s.sb := rfl
@[simp] theorem countRead_osrsT (s : State) : (countRead s).osrsT = s.osrsT := rfl
@[simp] theorem countRead_osrsP (s : State) : (countRead s).osrsP = s.osrsP := rfl
@[simp] theorem countRead_osrsH (s : State) : (countRead s).osrsH = s.osrsH := rfl
@[simp] theorem countRead_sessionActive (s : State) : (countRead s).sessionActive = s.sessionActive := rfl
@[simp] theorem countRead_sessionGen (s : State) : (countRead s).sessionGen = s.sessionGen := rfl
@[simp] theorem countRead_pollD (s : State) : (countRead s).pollD = s.pollD := rfl
@[simp] theorem countRead_pollTotal (s : State) : (countRead s).pollTotal = s.pollTotal := rfl
@[simp] theorem countRead_pollReads (s : State) : (countRead s).pollReads = s.pollReads + 1 := rfl
@[simp] theorem countRead_phase (s : State) : (countRead s).phase = s.phase := rfl
@[simp] theorem countRead_sts (s : State) : (countRead s).sts = s.sts := rfl
@[simp] theorem countRead_res (s : State) : (countRead s).res = s.res := rfl
@[simp] theorem countRead_trace (s : State) : (countRead s).trace = s.trace := rfl
@[simp] theorem countRead_port (s : State) : (countRead s).port = s.port := rfl
@[simp] theorem countRead_answers (s : State) : (countRead s).answers = s.answers := rfl
@[simp] theorem countRead_draws (s : State) : (countRead s).draws = s.draws := rfl
@[simp] theorem okAt_countRead (s : State) (k : Nat) : okAt (countRead s) k = okAt s k := rfl
@[simp] theorem byteAt_countRead (s : State) (k i : Nat) : byteAt (countRead s) k i = byteAt s k i := rfl
@[simp] theorem bytesAt_countRead (n : Nat) (s : State) (k : Nat) :
    bytesAt n (countRead s) k = bytesAt n s k := rfl

/-! ## A delay added up (R150) -/

@[simp] theorem addDelay_calBuf (s : State) : (addDelay s).calBuf = s.calBuf := rfl
@[simp] theorem addDelay_coef (s : State) : (addDelay s).coef = s.coef := rfl
@[simp] theorem addDelay_isOpen (s : State) : (addDelay s).isOpen = s.isOpen := rfl
@[simp] theorem addDelay_raw (s : State) : (addDelay s).raw = s.raw := rfl
@[simp] theorem addDelay_rawValid (s : State) : (addDelay s).rawValid = s.rawValid := rfl
@[simp] theorem addDelay_tFine (s : State) : (addDelay s).tFine = s.tFine := rfl
@[simp] theorem addDelay_tfValid (s : State) : (addDelay s).tfValid = s.tfValid := rfl
@[simp] theorem addDelay_mode (s : State) : (addDelay s).mode = s.mode := rfl
@[simp] theorem addDelay_sb (s : State) : (addDelay s).sb = s.sb := rfl
@[simp] theorem addDelay_osrsT (s : State) : (addDelay s).osrsT = s.osrsT := rfl
@[simp] theorem addDelay_osrsP (s : State) : (addDelay s).osrsP = s.osrsP := rfl
@[simp] theorem addDelay_osrsH (s : State) : (addDelay s).osrsH = s.osrsH := rfl
@[simp] theorem addDelay_sessionActive (s : State) : (addDelay s).sessionActive = s.sessionActive := rfl
@[simp] theorem addDelay_sessionGen (s : State) : (addDelay s).sessionGen = s.sessionGen := rfl
@[simp] theorem addDelay_pollD (s : State) : (addDelay s).pollD = s.pollD := rfl
@[simp] theorem addDelay_pollTotal (s : State) : (addDelay s).pollTotal = s.pollTotal + zext 64 s.pollD := rfl
@[simp] theorem addDelay_pollReads (s : State) : (addDelay s).pollReads = s.pollReads := rfl
@[simp] theorem addDelay_phase (s : State) : (addDelay s).phase = s.phase := rfl
@[simp] theorem addDelay_sts (s : State) : (addDelay s).sts = s.sts := rfl
@[simp] theorem addDelay_res (s : State) : (addDelay s).res = s.res := rfl
@[simp] theorem addDelay_trace (s : State) : (addDelay s).trace = s.trace := rfl
@[simp] theorem addDelay_port (s : State) : (addDelay s).port = s.port := rfl
@[simp] theorem addDelay_answers (s : State) : (addDelay s).answers = s.answers := rfl
@[simp] theorem addDelay_draws (s : State) : (addDelay s).draws = s.draws := rfl
@[simp] theorem okAt_addDelay (s : State) (k : Nat) : okAt (addDelay s) k = okAt s k := rfl
@[simp] theorem byteAt_addDelay (s : State) (k i : Nat) : byteAt (addDelay s) k i = byteAt s k i := rfl
@[simp] theorem bytesAt_addDelay (n : Nat) (s : State) (k : Nat) :
    bytesAt n (addDelay s) k = bytesAt n s k := rfl

/-! ## The poll loop goes on (R150) -/

@[simp] theorem loopAgain_calBuf (rd : Bool) (tmo : BitVec 32) (s : State) : (loopAgain rd tmo s).calBuf = s.calBuf := rfl
@[simp] theorem loopAgain_coef (rd : Bool) (tmo : BitVec 32) (s : State) : (loopAgain rd tmo s).coef = s.coef := rfl
@[simp] theorem loopAgain_isOpen (rd : Bool) (tmo : BitVec 32) (s : State) : (loopAgain rd tmo s).isOpen = s.isOpen := rfl
@[simp] theorem loopAgain_raw (rd : Bool) (tmo : BitVec 32) (s : State) : (loopAgain rd tmo s).raw = s.raw := rfl
@[simp] theorem loopAgain_rawValid (rd : Bool) (tmo : BitVec 32) (s : State) : (loopAgain rd tmo s).rawValid = s.rawValid := rfl
@[simp] theorem loopAgain_tFine (rd : Bool) (tmo : BitVec 32) (s : State) : (loopAgain rd tmo s).tFine = s.tFine := rfl
@[simp] theorem loopAgain_tfValid (rd : Bool) (tmo : BitVec 32) (s : State) : (loopAgain rd tmo s).tfValid = s.tfValid := rfl
@[simp] theorem loopAgain_mode (rd : Bool) (tmo : BitVec 32) (s : State) : (loopAgain rd tmo s).mode = s.mode := rfl
@[simp] theorem loopAgain_sb (rd : Bool) (tmo : BitVec 32) (s : State) : (loopAgain rd tmo s).sb = s.sb := rfl
@[simp] theorem loopAgain_osrsT (rd : Bool) (tmo : BitVec 32) (s : State) : (loopAgain rd tmo s).osrsT = s.osrsT := rfl
@[simp] theorem loopAgain_osrsP (rd : Bool) (tmo : BitVec 32) (s : State) : (loopAgain rd tmo s).osrsP = s.osrsP := rfl
@[simp] theorem loopAgain_osrsH (rd : Bool) (tmo : BitVec 32) (s : State) : (loopAgain rd tmo s).osrsH = s.osrsH := rfl
@[simp] theorem loopAgain_sessionActive (rd : Bool) (tmo : BitVec 32) (s : State) : (loopAgain rd tmo s).sessionActive = s.sessionActive := rfl
@[simp] theorem loopAgain_sessionGen (rd : Bool) (tmo : BitVec 32) (s : State) : (loopAgain rd tmo s).sessionGen = s.sessionGen := rfl
@[simp] theorem loopAgain_pollD (rd : Bool) (tmo : BitVec 32) (s : State) : (loopAgain rd tmo s).pollD = nextDelay s.pollD := rfl
@[simp] theorem loopAgain_pollTotal (rd : Bool) (tmo : BitVec 32) (s : State) : (loopAgain rd tmo s).pollTotal = s.pollTotal := rfl
@[simp] theorem loopAgain_pollReads (rd : Bool) (tmo : BitVec 32) (s : State) : (loopAgain rd tmo s).pollReads = s.pollReads := rfl
@[simp] theorem loopAgain_phase (rd : Bool) (tmo : BitVec 32) (s : State) : (loopAgain rd tmo s).phase = .busy rd tmo := rfl
@[simp] theorem loopAgain_sts (rd : Bool) (tmo : BitVec 32) (s : State) : (loopAgain rd tmo s).sts = s.sts := rfl
@[simp] theorem loopAgain_res (rd : Bool) (tmo : BitVec 32) (s : State) : (loopAgain rd tmo s).res = s.res := rfl
@[simp] theorem loopAgain_trace (rd : Bool) (tmo : BitVec 32) (s : State) : (loopAgain rd tmo s).trace = s.trace := rfl
@[simp] theorem loopAgain_port (rd : Bool) (tmo : BitVec 32) (s : State) : (loopAgain rd tmo s).port = s.port := rfl
@[simp] theorem loopAgain_answers (rd : Bool) (tmo : BitVec 32) (s : State) : (loopAgain rd tmo s).answers = s.answers := rfl
@[simp] theorem loopAgain_draws (rd : Bool) (tmo : BitVec 32) (s : State) : (loopAgain rd tmo s).draws = s.draws := rfl
@[simp] theorem okAt_loopAgain (rd : Bool) (tmo : BitVec 32) (s : State) (k : Nat) : okAt (loopAgain rd tmo s) k = okAt s k := rfl
@[simp] theorem byteAt_loopAgain (rd : Bool) (tmo : BitVec 32) (s : State) (k i : Nat) : byteAt (loopAgain rd tmo s) k i = byteAt s k i := rfl
@[simp] theorem bytesAt_loopAgain (rd : Bool) (tmo : BitVec 32) (n : Nat) (s : State) (k : Nat) :
    bytesAt n (loopAgain rd tmo s) k = bytesAt n s k := rfl

/-! ## Several answers drawn (Safety.lean) -/

@[simp] theorem consumed_calBuf (n : Nat) (evs : List Event) (s : State) : (consumed n evs s).calBuf = s.calBuf := rfl
@[simp] theorem consumed_coef (n : Nat) (evs : List Event) (s : State) : (consumed n evs s).coef = s.coef := rfl
@[simp] theorem consumed_isOpen (n : Nat) (evs : List Event) (s : State) : (consumed n evs s).isOpen = s.isOpen := rfl
@[simp] theorem consumed_raw (n : Nat) (evs : List Event) (s : State) : (consumed n evs s).raw = s.raw := rfl
@[simp] theorem consumed_rawValid (n : Nat) (evs : List Event) (s : State) : (consumed n evs s).rawValid = s.rawValid := rfl
@[simp] theorem consumed_tFine (n : Nat) (evs : List Event) (s : State) : (consumed n evs s).tFine = s.tFine := rfl
@[simp] theorem consumed_tfValid (n : Nat) (evs : List Event) (s : State) : (consumed n evs s).tfValid = s.tfValid := rfl
@[simp] theorem consumed_mode (n : Nat) (evs : List Event) (s : State) : (consumed n evs s).mode = s.mode := rfl
@[simp] theorem consumed_sb (n : Nat) (evs : List Event) (s : State) : (consumed n evs s).sb = s.sb := rfl
@[simp] theorem consumed_osrsT (n : Nat) (evs : List Event) (s : State) : (consumed n evs s).osrsT = s.osrsT := rfl
@[simp] theorem consumed_osrsP (n : Nat) (evs : List Event) (s : State) : (consumed n evs s).osrsP = s.osrsP := rfl
@[simp] theorem consumed_osrsH (n : Nat) (evs : List Event) (s : State) : (consumed n evs s).osrsH = s.osrsH := rfl
@[simp] theorem consumed_sessionActive (n : Nat) (evs : List Event) (s : State) : (consumed n evs s).sessionActive = s.sessionActive := rfl
@[simp] theorem consumed_sessionGen (n : Nat) (evs : List Event) (s : State) : (consumed n evs s).sessionGen = s.sessionGen := rfl
@[simp] theorem consumed_pollD (n : Nat) (evs : List Event) (s : State) : (consumed n evs s).pollD = s.pollD := rfl
@[simp] theorem consumed_pollTotal (n : Nat) (evs : List Event) (s : State) : (consumed n evs s).pollTotal = s.pollTotal := rfl
@[simp] theorem consumed_pollReads (n : Nat) (evs : List Event) (s : State) : (consumed n evs s).pollReads = s.pollReads := rfl
@[simp] theorem consumed_phase (n : Nat) (evs : List Event) (s : State) : (consumed n evs s).phase = s.phase := rfl
@[simp] theorem consumed_sts (n : Nat) (evs : List Event) (s : State) : (consumed n evs s).sts = s.sts := rfl
@[simp] theorem consumed_res (n : Nat) (evs : List Event) (s : State) : (consumed n evs s).res = s.res := rfl
@[simp] theorem consumed_trace (n : Nat) (evs : List Event) (s : State) : (consumed n evs s).trace = s.trace ++ evs := rfl
@[simp] theorem consumed_port (n : Nat) (evs : List Event) (s : State) : (consumed n evs s).port = s.port := rfl
@[simp] theorem consumed_answers (n : Nat) (evs : List Event) (s : State) : (consumed n evs s).answers = s.answers.drop n := rfl
@[simp] theorem consumed_draws (n : Nat) (evs : List Event) (s : State) : (consumed n evs s).draws = s.draws + n := rfl

/-! ## Answers passed over (Safety.lean) -/

@[simp] theorem passOver_calBuf (j : Nat) (s : State) : (passOver j s).calBuf = s.calBuf := rfl
@[simp] theorem passOver_coef (j : Nat) (s : State) : (passOver j s).coef = s.coef := rfl
@[simp] theorem passOver_isOpen (j : Nat) (s : State) : (passOver j s).isOpen = s.isOpen := rfl
@[simp] theorem passOver_raw (j : Nat) (s : State) : (passOver j s).raw = s.raw := rfl
@[simp] theorem passOver_rawValid (j : Nat) (s : State) : (passOver j s).rawValid = s.rawValid := rfl
@[simp] theorem passOver_tFine (j : Nat) (s : State) : (passOver j s).tFine = s.tFine := rfl
@[simp] theorem passOver_tfValid (j : Nat) (s : State) : (passOver j s).tfValid = s.tfValid := rfl
@[simp] theorem passOver_mode (j : Nat) (s : State) : (passOver j s).mode = s.mode := rfl
@[simp] theorem passOver_sb (j : Nat) (s : State) : (passOver j s).sb = s.sb := rfl
@[simp] theorem passOver_osrsT (j : Nat) (s : State) : (passOver j s).osrsT = s.osrsT := rfl
@[simp] theorem passOver_osrsP (j : Nat) (s : State) : (passOver j s).osrsP = s.osrsP := rfl
@[simp] theorem passOver_osrsH (j : Nat) (s : State) : (passOver j s).osrsH = s.osrsH := rfl
@[simp] theorem passOver_sessionActive (j : Nat) (s : State) : (passOver j s).sessionActive = s.sessionActive := rfl
@[simp] theorem passOver_sessionGen (j : Nat) (s : State) : (passOver j s).sessionGen = s.sessionGen := rfl
@[simp] theorem passOver_pollD (j : Nat) (s : State) : (passOver j s).pollD = s.pollD := rfl
@[simp] theorem passOver_pollTotal (j : Nat) (s : State) : (passOver j s).pollTotal = s.pollTotal := rfl
@[simp] theorem passOver_pollReads (j : Nat) (s : State) : (passOver j s).pollReads = s.pollReads := rfl
@[simp] theorem passOver_phase (j : Nat) (s : State) : (passOver j s).phase = s.phase := rfl
@[simp] theorem passOver_sts (j : Nat) (s : State) : (passOver j s).sts = s.sts := rfl
@[simp] theorem passOver_res (j : Nat) (s : State) : (passOver j s).res = s.res := rfl
@[simp] theorem passOver_trace (j : Nat) (s : State) : (passOver j s).trace = s.trace := rfl
@[simp] theorem passOver_port (j : Nat) (s : State) : (passOver j s).port = s.port := rfl
@[simp] theorem passOver_answers (j : Nat) (s : State) : (passOver j s).answers = s.answers.drop j := rfl
@[simp] theorem passOver_draws (j : Nat) (s : State) : (passOver j s).draws = s.draws + j := rfl

/-! ## A command ended (Safety.lean) -/

@[simp] theorem ended_calBuf (sts : BitVec 8) (res : BitVec 32) (s : State) : (ended sts res s).calBuf = s.calBuf := rfl
@[simp] theorem ended_coef (sts : BitVec 8) (res : BitVec 32) (s : State) : (ended sts res s).coef = s.coef := rfl
@[simp] theorem ended_isOpen (sts : BitVec 8) (res : BitVec 32) (s : State) : (ended sts res s).isOpen = s.isOpen := rfl
@[simp] theorem ended_raw (sts : BitVec 8) (res : BitVec 32) (s : State) : (ended sts res s).raw = s.raw := rfl
@[simp] theorem ended_rawValid (sts : BitVec 8) (res : BitVec 32) (s : State) : (ended sts res s).rawValid = s.rawValid := rfl
@[simp] theorem ended_tFine (sts : BitVec 8) (res : BitVec 32) (s : State) : (ended sts res s).tFine = s.tFine := rfl
@[simp] theorem ended_tfValid (sts : BitVec 8) (res : BitVec 32) (s : State) : (ended sts res s).tfValid = s.tfValid := rfl
@[simp] theorem ended_mode (sts : BitVec 8) (res : BitVec 32) (s : State) : (ended sts res s).mode = s.mode := rfl
@[simp] theorem ended_sb (sts : BitVec 8) (res : BitVec 32) (s : State) : (ended sts res s).sb = s.sb := rfl
@[simp] theorem ended_osrsT (sts : BitVec 8) (res : BitVec 32) (s : State) : (ended sts res s).osrsT = s.osrsT := rfl
@[simp] theorem ended_osrsP (sts : BitVec 8) (res : BitVec 32) (s : State) : (ended sts res s).osrsP = s.osrsP := rfl
@[simp] theorem ended_osrsH (sts : BitVec 8) (res : BitVec 32) (s : State) : (ended sts res s).osrsH = s.osrsH := rfl
@[simp] theorem ended_sessionActive (sts : BitVec 8) (res : BitVec 32) (s : State) : (ended sts res s).sessionActive = s.sessionActive := rfl
@[simp] theorem ended_sessionGen (sts : BitVec 8) (res : BitVec 32) (s : State) : (ended sts res s).sessionGen = s.sessionGen := rfl
@[simp] theorem ended_pollD (sts : BitVec 8) (res : BitVec 32) (s : State) : (ended sts res s).pollD = s.pollD := rfl
@[simp] theorem ended_pollTotal (sts : BitVec 8) (res : BitVec 32) (s : State) : (ended sts res s).pollTotal = s.pollTotal := rfl
@[simp] theorem ended_pollReads (sts : BitVec 8) (res : BitVec 32) (s : State) : (ended sts res s).pollReads = s.pollReads := rfl
@[simp] theorem ended_phase (sts : BitVec 8) (res : BitVec 32) (s : State) : (ended sts res s).phase = .idle := rfl
@[simp] theorem ended_sts (sts : BitVec 8) (res : BitVec 32) (s : State) : (ended sts res s).sts = sts := rfl
@[simp] theorem ended_res (sts : BitVec 8) (res : BitVec 32) (s : State) : (ended sts res s).res = res := rfl
@[simp] theorem ended_trace (sts : BitVec 8) (res : BitVec 32) (s : State) : (ended sts res s).trace = s.trace := rfl
@[simp] theorem ended_port (sts : BitVec 8) (res : BitVec 32) (s : State) : (ended sts res s).port = s.port := rfl
@[simp] theorem ended_answers (sts : BitVec 8) (res : BitVec 32) (s : State) : (ended sts res s).answers = s.answers := rfl
@[simp] theorem ended_draws (sts : BitVec 8) (res : BitVec 32) (s : State) : (ended sts res s).draws = s.draws := rfl
@[simp] theorem okAt_ended (sts : BitVec 8) (res : BitVec 32) (s : State) (k : Nat) : okAt (ended sts res s) k = okAt s k := rfl
@[simp] theorem byteAt_ended (sts : BitVec 8) (res : BitVec 32) (s : State) (k i : Nat) : byteAt (ended sts res s) k i = byteAt s k i := rfl
@[simp] theorem bytesAt_ended (sts : BitVec 8) (res : BitVec 32) (n : Nat) (s : State) (k : Nat) :
    bytesAt n (ended sts res s) k = bytesAt n s k := rfl

/-! ## A word put on the port -/

@[simp] theorem placeCommand_calBuf (w : CommandWord) (s : State) : (placeCommand w s).calBuf = s.calBuf := rfl
@[simp] theorem placeCommand_coef (w : CommandWord) (s : State) : (placeCommand w s).coef = s.coef := rfl
@[simp] theorem placeCommand_isOpen (w : CommandWord) (s : State) : (placeCommand w s).isOpen = s.isOpen := rfl
@[simp] theorem placeCommand_raw (w : CommandWord) (s : State) : (placeCommand w s).raw = s.raw := rfl
@[simp] theorem placeCommand_rawValid (w : CommandWord) (s : State) : (placeCommand w s).rawValid = s.rawValid := rfl
@[simp] theorem placeCommand_tFine (w : CommandWord) (s : State) : (placeCommand w s).tFine = s.tFine := rfl
@[simp] theorem placeCommand_tfValid (w : CommandWord) (s : State) : (placeCommand w s).tfValid = s.tfValid := rfl
@[simp] theorem placeCommand_mode (w : CommandWord) (s : State) : (placeCommand w s).mode = s.mode := rfl
@[simp] theorem placeCommand_sb (w : CommandWord) (s : State) : (placeCommand w s).sb = s.sb := rfl
@[simp] theorem placeCommand_osrsT (w : CommandWord) (s : State) : (placeCommand w s).osrsT = s.osrsT := rfl
@[simp] theorem placeCommand_osrsP (w : CommandWord) (s : State) : (placeCommand w s).osrsP = s.osrsP := rfl
@[simp] theorem placeCommand_osrsH (w : CommandWord) (s : State) : (placeCommand w s).osrsH = s.osrsH := rfl
@[simp] theorem placeCommand_sessionActive (w : CommandWord) (s : State) : (placeCommand w s).sessionActive = s.sessionActive := rfl
@[simp] theorem placeCommand_sessionGen (w : CommandWord) (s : State) : (placeCommand w s).sessionGen = s.sessionGen := rfl
@[simp] theorem placeCommand_pollD (w : CommandWord) (s : State) : (placeCommand w s).pollD = s.pollD := rfl
@[simp] theorem placeCommand_pollTotal (w : CommandWord) (s : State) : (placeCommand w s).pollTotal = s.pollTotal := rfl
@[simp] theorem placeCommand_pollReads (w : CommandWord) (s : State) : (placeCommand w s).pollReads = s.pollReads := rfl
@[simp] theorem placeCommand_phase (w : CommandWord) (s : State) : (placeCommand w s).phase = .idle := rfl
@[simp] theorem placeCommand_sts (w : CommandWord) (s : State) : (placeCommand w s).sts = s.sts := rfl
@[simp] theorem placeCommand_res (w : CommandWord) (s : State) : (placeCommand w s).res = s.res := rfl
@[simp] theorem placeCommand_trace (w : CommandWord) (s : State) : (placeCommand w s).trace = s.trace := rfl
@[simp] theorem placeCommand_port (w : CommandWord) (s : State) : (placeCommand w s).port = w :: s.port := rfl
@[simp] theorem placeCommand_answers (w : CommandWord) (s : State) : (placeCommand w s).answers = s.answers := rfl
@[simp] theorem placeCommand_draws (w : CommandWord) (s : State) : (placeCommand w s).draws = s.draws := rfl
@[simp] theorem okAt_placeCommand (w : CommandWord) (s : State) (k : Nat) : okAt (placeCommand w s) k = okAt s k := rfl
@[simp] theorem byteAt_placeCommand (w : CommandWord) (s : State) (k i : Nat) : byteAt (placeCommand w s) k i = byteAt s k i := rfl
@[simp] theorem bytesAt_placeCommand (w : CommandWord) (n : Nat) (s : State) (k : Nat) :
    bytesAt n (placeCommand w s) k = bytesAt n s k := rfl

end Sys2Proof.Machine
end

