-- ==== Sys2Proof/Laws/Ops.lean ====
section
/-! SUPPORT. What each shared operation can do, said once: the transport, the pre-checks, a guarded command, and `exec`
as a total function. -/

namespace Sys2Proof.Machine

/-! ## The transport -/

@[simp] theorem busRead_ok (a : Byte) (n : Nat) (s : State) : (busRead a n s).ok = answerOk s := rfl
@[simp] theorem busRead_bytes (a : Byte) (n : Nat) (s : State) : (busRead a n s).bytes = answerBytes n s := rfl
@[simp] theorem busRead_after (a : Byte) (n : Nat) (s : State) :
    (busRead a n s).after = drawn (readEvent a n s) s := rfl
@[simp] theorem busWrite_ok (a v : Byte) (s : State) : (busWrite a v s).ok = answerOk s := rfl
@[simp] theorem busWrite_after (a v : Byte) (s : State) :
    (busWrite a v s).after = drawn (.write a v (answerOk s)) s := rfl

@[simp] theorem delay_eq (d : BitVec 16) (s : State) : delay d s = emit (.delay d) s := rfl
@[simp] theorem sessionCreate_eq (sb : BitVec 3) (s : State) : sessionCreate sb s = emit (.sessionCreate sb) s := rfl
@[simp] theorem sessionRelease_eq (s : State) : sessionRelease s = emit .sessionRelease s := rfl

/-- Two states with the same inputs get the same answer. -/
theorem answerOk_congr {s t : State} (ha : s.answers = t.answers) (hd : s.draws = t.draws) :
    answerOk s = answerOk t := by
  simp [answerOk, ha, hd]

/-- Two states with the same inputs get the same bytes. -/
theorem answerByte_congr {s t : State} (ha : s.answers = t.answers) (hd : s.draws = t.draws) (i : Nat) :
    answerByte s i = answerByte t i := by
  simp [answerByte, ha, hd]

/-- Two states with the same inputs get the same burst. -/
theorem answerBytes_congr {s t : State} (ha : s.answers = t.answers) (hd : s.draws = t.draws) (n : Nat) :
    answerBytes n s = answerBytes n t := by
  simp [answerBytes, answerByte_congr ha hd]

/-- The next answer is the first to come. -/
@[simp] theorem answerOk_eq (s : State) : answerOk s = okAt s 0 := rfl

/-- The next answer's bytes are the first to come. -/
@[simp] theorem answerByte_eq (s : State) (i : Nat) : answerByte s i = byteAt s 0 i := rfl

/-- The next answer's burst is the first to come. -/
@[simp] theorem answerBytes_eq (n : Nat) (s : State) : answerBytes n s = bytesAt n s 0 := rfl

/-- The answers to come after one is drawn. -/
@[simp] theorem okAt_drawn (e : Event) (s : State) (j : Nat) : okAt (drawn e s) j = okAt s (j + 1) :=
  answerOk_congr (by simp [List.drop_tail]) (by simp only [passOver_draws, drawn_draws]; omega)

/-- The bytes to come after one answer is drawn. -/
@[simp] theorem byteAt_drawn (e : Event) (s : State) (j i : Nat) : byteAt (drawn e s) j i = byteAt s (j + 1) i :=
  answerByte_congr (by simp [List.drop_tail]) (by simp only [passOver_draws, drawn_draws]; omega) i

/-- The bursts to come after one answer is drawn. -/
@[simp] theorem bytesAt_drawn (n : Nat) (e : Event) (s : State) (j : Nat) :
    bytesAt n (drawn e s) j = bytesAt n s (j + 1) := by
  simp only [bytesAt, byteAt_drawn]

@[simp] theorem bytesAt_getElem (n : Nat) (s : State) (j i : Nat) (h : i < n) :
    (bytesAt n s j)[i] = byteAt s j i := by
  simp [bytesAt]

/-- A read whose answer is a success, as the trace shows it. -/
@[simp] theorem readEvent_ok {a : Byte} {n : Nat} {s : State} (h : okAt s 0 = true) :
    readEvent a n s = .read a n true (bytesAt n s 0).toList := by
  simp [readEvent, h]

/-- A read whose answer is a failure. -/
@[simp] theorem readEvent_fail {a : Byte} {n : Nat} {s : State} (h : okAt s 0 = false) :
    readEvent a n s = .read a n false [] := by
  simp [readEvent, h]

/-- A burst of one byte. -/
@[simp] theorem bytesAt_one_toList (s : State) (j : Nat) : (bytesAt 1 s j).toList = [byteAt s j 0] := by
  simp [bytesAt, Vector.ofFn, List.ofFn_succ]

/-! ## The pre-checks and the guarded command -/

/-- What passing the pre-checks means (R231). -/
theorem preCheck_eq_none_iff (i : Instr) (s : State) :
    preCheck i s = none ↔
      (isBusCommand i = true → commandCb i = false) ∧ (needsOpen i = true → s.isOpen = true) ∧
      (needsNoSession i = true → s.sessionActive = false) ∧ (needsSample i = true → s.rawValid = true) ∧
      (needsTfine i = true → s.tfValid = true) := by
  unfold preCheck
  split_ifs <;> simp_all

/-- What the pre-checks read. -/
theorem preCheck_congr {s t : State} (i : Instr) (ho : s.isOpen = t.isOpen) (ha : s.sessionActive = t.sessionActive)
    (hr : s.rawValid = t.rawValid) (ht : s.tfValid = t.tfValid) : preCheck i s = preCheck i t := by
  simp [preCheck, ho, ha, hr, ht]

/-- A guarded command either is refused by a pre-check or runs its body. -/
theorem guarded_cases (i : Instr) (body : State → State) (s : State) :
    (∃ code, preCheck i s = some code ∧ guarded i body s = finish code 0 false s) ∨
      (preCheck i s = none ∧ guarded i body s = body s) := by
  unfold guarded
  cases h : preCheck i s with
  | none => exact .inr ⟨rfl, rfl⟩
  | some code => exact .inl ⟨code, rfl, rfl⟩

/-- A pre-check never answers OK. -/
theorem preCheck_ne_ok (i : Instr) (s : State) : preCheck i s ≠ some .ok := by
  unfold preCheck
  split_ifs <;> simp

/-! ## Commands as a total function -/

/-- The body of a command past its pre-checks. -/
def bodyOf : Instr → State → State
  | .openCmd _ => openBody
  | .closeCmd _ => closeBody
  | .triggerForced _ ot op oh => triggerForcedBody ot op oh
  | .startNormal _ sb => startNormalBody sb
  | .stop _ => stopBody
  | .poll _ rd tmo => fun s => pollPass rd tmo (pollStart s)
  | .readRaw _ => readRawBody
  | .compT _ => compTBody
  | .compP _ => compPBody
  | .compH _ => compHBody

/-- Every command answers a next state: the one its guarded body leaves. -/
theorem exec_eq (i : Instr) (s : State) : exec i s = .next (guarded i (bodyOf i) s) := by
  cases i <;> rfl

/-- What a command that answers `t` did. -/
theorem exec_cases {i : Instr} {s t : State} (h : exec i s = .next t) :
    (∃ code, preCheck i s = some code ∧ t = finish code 0 false s) ∨ (preCheck i s = none ∧ t = bodyOf i s) := by
  rw [exec_eq] at h
  obtain ⟨code, hc, hg⟩ | ⟨hc, hg⟩ := guarded_cases i (bodyOf i) s
  · exact .inl ⟨code, hc, by rw [← hg]; injection h with h; exact h.symm⟩
  · exact .inr ⟨hc, by rw [← hg]; injection h with h; exact h.symm⟩

/-! ## The step -/

/-- BUSY: the running POLL goes on. -/
theorem step_busy {s : State} {rd : Bool} {tmo : BitVec 32} (h : s.phase = .busy rd tmo) :
    step s = .next (pollPass rd tmo s) := by
  simp [step, h, continuePoll]

/-- IDLE with nothing on the port: the block stays as it is. -/
theorem step_idle_empty {s : State} (h : s.phase = .idle) (hp : s.port = []) : step s = .next s := by
  simp [step, h, takeCommand, hp]

/-- IDLE with a word that is no command. -/
theorem step_idle_illegal {s : State} {w : CommandWord} {rest : List CommandWord} (h : s.phase = .idle)
    (hp : s.port = w :: rest) (hd : decode w = none) : step s = .next (illegalWord { s with port := rest }) := by
  simp [step, h, takeCommand, hp, hd]

/-- What a step that answers `t` did. -/
theorem step_cases {s t : State} (h : step s = .next t) :
    (∃ rd tmo, s.phase = .busy rd tmo ∧ t = pollPass rd tmo s) ∨
      (s.phase = .idle ∧ s.port = [] ∧ t = s) ∨
      (∃ w rest, s.phase = .idle ∧ s.port = w :: rest ∧ decode w = none ∧ t = illegalWord { s with port := rest }) ∨
      ∃ w rest i, s.phase = .idle ∧ s.port = w :: rest ∧ decode w = some i ∧
        exec i { s with port := rest } = .next t := by
  cases hp : s.phase with
  | busy rd tmo =>
    rw [step_busy hp] at h
    injection h with h
    exact .inl ⟨rd, tmo, rfl, h.symm⟩
  | idle =>
    right
    cases hq : s.port with
    | nil =>
      rw [step_idle_empty hp hq] at h
      injection h with h
      exact .inl ⟨rfl, rfl, h.symm⟩
    | cons w rest =>
      right
      cases hd : decode w with
      | none =>
        rw [step_idle_illegal hp hq hd] at h
        injection h with h
        exact .inl ⟨w, rest, rfl, rfl, hd, h.symm⟩
      | some i =>
        refine .inr ⟨w, rest, i, rfl, rfl, hd, ?_⟩
        simpa [step, hp, takeCommand, hq, hd] using h

/-! ## Runs -/

/-- A run of no steps. -/
@[simp] theorem run_zero (s : State) : core.run 0 s = .next s := rfl

/-- A run's first step. -/
theorem run_succ {s u : State} (n : Nat) (h : step s = .next u) : core.run (n + 1) s = core.run n u := by
  simp only [Host.Core.run, core, h]

/-- A run's last step. -/
theorem run_snoc {n : Nat} : ∀ {s u t : State}, core.run n s = .next u → step u = .next t →
    core.run (n + 1) s = .next t := by
  induction n with
  | zero =>
    intro s u t h ht
    obtain rfl : s = u := by injection h
    exact run_succ 0 ht
  | succ n ih =>
    intro s u t h ht
    cases hs : step s with
    | next v =>
      rw [run_succ n hs] at h
      rw [run_succ (n + 1) hs]
      exact ih h ht
    | fault r => cases r
    | refused r => simp only [Host.Core.run, core, hs] at h; cases h

end Sys2Proof.Machine
end

