-- ==== Sys2Proof/Laws/Bodies.lean ====
section
/-! SUPPORT. What the body of each command does, one lemma per path of its rule (spec/40_calibration.md R121,
41_mode_control.md R142 to R150, 42_raw_reader.md R181), in terms of the answers to come and the named updates. -/

namespace Sys2Proof.Machine

@[simp] theorem tail_tail_eq_drop {α : Type} (l : List α) : l.tail.tail = l.drop 2 := by cases l <;> simp

/-- Two states with equal fields are equal. -/
theorem State.eq_of_fields {s t : State} (h : s.calBuf = t.calBuf ∧ s.coef = t.coef ∧ s.isOpen = t.isOpen ∧
    s.raw = t.raw ∧ s.rawValid = t.rawValid ∧ s.tFine = t.tFine ∧ s.tfValid = t.tfValid ∧ s.mode = t.mode ∧
    s.sb = t.sb ∧ s.osrsT = t.osrsT ∧ s.osrsP = t.osrsP ∧ s.osrsH = t.osrsH ∧ s.sessionActive = t.sessionActive ∧
    s.sessionGen = t.sessionGen ∧ s.pollD = t.pollD ∧ s.pollTotal = t.pollTotal ∧ s.pollReads = t.pollReads ∧
    s.phase = t.phase ∧ s.sts = t.sts ∧ s.res = t.res ∧ s.trace = t.trace ∧ s.port = t.port ∧
    s.answers = t.answers ∧ s.draws = t.draws) : s = t := by
  cases s; cases t; simpa using h

/-! ## OPEN (R121) -/

/-- X1 fails. -/
theorem openBody_x1_fails {s : State} (h : okAt s 0 = false) :
    openBody s = openFail .transportError 0 (drawn (.read 0xD0 1 false []) s) := by
  simp [openBody, h, Config.regId]

/-- The ID byte is not the expected one. -/
theorem openBody_mismatch {s : State} (h : okAt s 0 = true) (hid : byteAt s 0 0 ≠ 0x60#8) :
    openBody s =
      openFail .identityMismatch (zext 32 (byteAt s 0 0)) (drawn (.read 0xD0 1 true [byteAt s 0 0]) s) := by
  simp [openBody, h, hid, Config.regId, Config.expectedId]

/-- The ID byte is the expected one. -/
theorem openBody_identified {s : State} (h : okAt s 0 = true) (hid : byteAt s 0 0 = 0x60#8) :
    openBody s = openCalibration 0x60#8 (drawn (.read 0xD0 1 true [0x60#8]) s) := by
  simp [openBody, h, hid, Config.regId, Config.expectedId]

/-- X2 fails. -/
theorem openCalibration_x2_fails (id : Byte) {s : State} (h : okAt s 0 = false) :
    openCalibration id s = openFail .transportError (zext 32 id) (drawn (.read 0x88 26 false []) s) := by
  simp [openCalibration, h, Config.regCalib00, Config.lenCalib00]

/-- X3 fails: the first block is stored. -/
theorem openCalibration_x3_fails (id : Byte) {s : State} (h0 : okAt s 0 = true) (h1 : okAt s 1 = false) :
    openCalibration id s = openFail .transportError (zext 32 id) (drawn (.read 0xE1 7 false [])
      (setCalBuf (storeBlock 0 (bytesAt 26 s 0) s.calBuf) (drawn (.read 0x88 26 true (bytesAt 26 s 0).toList) s))) := by
  simp [openCalibration, h0, h1, Config.regCalib00, Config.lenCalib00, Config.regCalib26, Config.lenCalib26]

/-- Both blocks are read. -/
theorem openCalibration_reads (id : Byte) {s : State} (h0 : okAt s 0 = true) (h1 : okAt s 1 = true) :
    openCalibration id s = openDone (bytesAt 7 s 1) (drawn (.read 0xE1 7 true (bytesAt 7 s 1).toList)
      (setCalBuf (storeBlock 0 (bytesAt 26 s 0) s.calBuf) (drawn (.read 0x88 26 true (bytesAt 26 s 0).toList) s))) := by
  simp [openCalibration, h0, h1, Config.regCalib00, Config.lenCalib00, Config.regCalib26, Config.lenCalib26]

/-- The first block in `cal_buf`. -/
theorem storeBlock_first (s : State) : storeBlock 0 (bytesAt 26 s 1) s.calBuf = calAfterX2 s := by
  ext i hi
  simp [storeBlock, calAfterX2]

/-- Both blocks in `cal_buf`: nothing of the old contents is left. -/
theorem storeBlock_both (s : State) :
    storeBlock 26 (bytesAt 7 s 2) (storeBlock 0 (bytesAt 26 s 1) s.calBuf) = calAfterX3 s := by
  ext1 i hi
  simp only [storeBlock, calAfterX3, Vector.getElem_ofFn, bytesAt_getElem, Nat.sub_zero, Nat.zero_le, true_and,
    Fin.getElem_fin]
  split_ifs <;> first | rfl | omega

/-! ## The bytes written (R90, R92, R93, R143, R145), in whole numbers -/

theorem ctrlHumByte_eq (oh : BitVec 3) : ctrlHumByte oh = BitVec.ofNat 8 oh.toNat := by revert oh; decide

theorem ctrlMeasByte_eq (ot op : BitVec 3) (m : BitVec 2) :
    ctrlMeasByte ot op m = BitVec.ofNat 8 (32 * ot.toNat + 4 * op.toNat + m.toNat) := by
  revert ot op m; decide

theorem configByte_eq (sb : BitVec 3) : configByte sb = BitVec.ofNat 8 (32 * sb.toNat) := by revert sb; decide

/-- Ready in one mask (R149). -/
theorem deviceReady_iff (b : Byte) : deviceReady b = true ↔ b &&& 0x05#8 = 0#8 := by revert b; decide

/-! ## Releasing the session (R148): the fields after it -/

@[simp] theorem releaseIfLive_calBuf (s : State) : (releaseIfLive s).calBuf = s.calBuf := by
  unfold releaseIfLive; split <;> rfl
@[simp] theorem releaseIfLive_coef (s : State) : (releaseIfLive s).coef = s.coef := by
  unfold releaseIfLive; split <;> rfl
@[simp] theorem releaseIfLive_isOpen (s : State) : (releaseIfLive s).isOpen = s.isOpen := by
  unfold releaseIfLive; split <;> rfl
@[simp] theorem releaseIfLive_raw (s : State) : (releaseIfLive s).raw = s.raw := by
  unfold releaseIfLive; split <;> rfl
@[simp] theorem releaseIfLive_rawValid (s : State) : (releaseIfLive s).rawValid = s.rawValid := by
  unfold releaseIfLive; split <;> rfl
@[simp] theorem releaseIfLive_tFine (s : State) : (releaseIfLive s).tFine = s.tFine := by
  unfold releaseIfLive; split <;> rfl
@[simp] theorem releaseIfLive_tfValid (s : State) : (releaseIfLive s).tfValid = s.tfValid := by
  unfold releaseIfLive; split <;> rfl
@[simp] theorem releaseIfLive_mode (s : State) : (releaseIfLive s).mode = s.mode := by
  unfold releaseIfLive; split <;> rfl
@[simp] theorem releaseIfLive_sb (s : State) : (releaseIfLive s).sb = s.sb := by
  unfold releaseIfLive; split <;> rfl
@[simp] theorem releaseIfLive_osrsT (s : State) : (releaseIfLive s).osrsT = s.osrsT := by
  unfold releaseIfLive; split <;> rfl
@[simp] theorem releaseIfLive_osrsP (s : State) : (releaseIfLive s).osrsP = s.osrsP := by
  unfold releaseIfLive; split <;> rfl
@[simp] theorem releaseIfLive_osrsH (s : State) : (releaseIfLive s).osrsH = s.osrsH := by
  unfold releaseIfLive; split <;> rfl
@[simp] theorem releaseIfLive_sessionGen (s : State) : (releaseIfLive s).sessionGen = s.sessionGen := by
  unfold releaseIfLive; split <;> rfl
@[simp] theorem releaseIfLive_pollD (s : State) : (releaseIfLive s).pollD = s.pollD := by
  unfold releaseIfLive; split <;> rfl
@[simp] theorem releaseIfLive_pollTotal (s : State) : (releaseIfLive s).pollTotal = s.pollTotal := by
  unfold releaseIfLive; split <;> rfl
@[simp] theorem releaseIfLive_pollReads (s : State) : (releaseIfLive s).pollReads = s.pollReads := by
  unfold releaseIfLive; split <;> rfl
@[simp] theorem releaseIfLive_phase (s : State) : (releaseIfLive s).phase = s.phase := by
  unfold releaseIfLive; split <;> rfl
@[simp] theorem releaseIfLive_sts (s : State) : (releaseIfLive s).sts = s.sts := by
  unfold releaseIfLive; split <;> rfl
@[simp] theorem releaseIfLive_res (s : State) : (releaseIfLive s).res = s.res := by
  unfold releaseIfLive; split <;> rfl
@[simp] theorem releaseIfLive_port (s : State) : (releaseIfLive s).port = s.port := by
  unfold releaseIfLive; split <;> rfl
@[simp] theorem releaseIfLive_answers (s : State) : (releaseIfLive s).answers = s.answers := by
  unfold releaseIfLive; split <;> rfl
@[simp] theorem releaseIfLive_draws (s : State) : (releaseIfLive s).draws = s.draws := by
  unfold releaseIfLive; split <;> rfl
@[simp] theorem releaseIfLive_sessionActive (s : State) : (releaseIfLive s).sessionActive = false := by
  unfold releaseIfLive; split <;> simp_all
@[simp] theorem releaseIfLive_trace (s : State) :
    (releaseIfLive s).trace = s.trace ++ if s.sessionActive then [.sessionRelease] else [] := by
  unfold releaseIfLive; split <;> simp_all

/-! ## The status word (R37, R230) -/

@[simp] theorem stsWord_false_deg (c : OutcomeCode) : (stsWord c false)[4] = false := by cases c <;> decide
@[simp] theorem stsWord_true_deg (c : OutcomeCode) : (stsWord c true)[4] = true := by cases c <;> decide

/-! ## POLL (R150): one pass of the loop -/

/-- The status read fails. -/
theorem pollPass_x7_fails (rd : Bool) (tmo : BitVec 32) {s : State} (h : okAt s 0 = false) :
    pollPass rd tmo s = pollFinish .transportError (countRead (drawn (.read 0xF3 1 false []) s)) := by
  simp [pollPass, h, Config.regStatus]

/-- The device is ready. -/
theorem pollPass_ready (rd : Bool) (tmo : BitVec 32) {s : State} (h : okAt s 0 = true)
    (hr : byteAt s 0 0 &&& 0x05#8 = 0#8) :
    pollPass rd tmo s = pollReady rd (countRead (drawn (.read 0xF3 1 true [byteAt s 0 0]) s)) := by
  simp [pollPass, h, (deviceReady_iff _).2 hr, Config.regStatus]

/-- The device is not ready. -/
theorem pollPass_unready (rd : Bool) (tmo : BitVec 32) {s : State} (h : okAt s 0 = true)
    (hr : byteAt s 0 0 &&& 0x05#8 ≠ 0#8) :
    pollPass rd tmo s = pollWait rd tmo (countRead (drawn (.read 0xF3 1 true [byteAt s 0 0]) s)) := by
  simp [pollPass, h, mt (deviceReady_iff _).1 hr, Config.regStatus]

/-- Ready with no read asked for. -/
theorem pollReady_noRead (s : State) : pollReady false s = pollFinish .ok (measurementDone s) := rfl

/-- Ready, and the raw read fails. -/
theorem pollReady_x8_fails {s : State} (h : okAt s 0 = false) :
    pollReady true s = pollFinish .transportError (drawn (.read 0xF7 8 false []) (measurementDone s)) := by
  simp [pollReady, measurementDone, h, Config.regData]

/-- Ready, and the sample is read. -/
theorem pollReady_reads {s : State} (h : okAt s 0 = true) :
    pollReady true s = pollFinish .ok (takeSample (bytesAt 8 s 0)
      (drawn (.read 0xF7 8 true (bytesAt 8 s 0).toList) (measurementDone s))) := by
  simp [pollReady, measurementDone, h, Config.regData, Config.lenData]

/-- The total passes the timeout. -/
theorem pollWait_times_out (rd : Bool) {tmo : BitVec 32} {s : State} (h : tmo ≠ 0#32)
    (ht : tmo.toNat < (s.pollTotal + s.pollD.setWidth 64).toNat) :
    pollWait rd tmo s = pollFinish .timeout (addDelay (emit (.delay s.pollD) s)) := by
  have hz : (tmo.setWidth 64).toNat = tmo.toNat := by simp; omega
  simp only [pollWait, delay_eq, addDelay_pollTotal, emit_pollTotal, emit_pollD, zext, hz]
  exact if_pos ⟨h, ht⟩

/-- The total does not pass the timeout, or there is none. -/
theorem pollWait_again (rd : Bool) {tmo : BitVec 32} {s : State}
    (h : tmo = 0#32 ∨ (s.pollTotal + s.pollD.setWidth 64).toNat ≤ tmo.toNat) :
    pollWait rd tmo s = loopAgain rd tmo (addDelay (emit (.delay s.pollD) s)) := by
  have hz : (tmo.setWidth 64).toNat = tmo.toNat := by simp; omega
  simp only [pollWait, delay_eq, addDelay_pollTotal, emit_pollTotal, emit_pollD, zext, hz]
  refine if_neg ?_
  rintro ⟨hne, hlt⟩
  rcases h with h | h
  · exact hne h
  · omega

/-- The state after an unready status read and its delay (R150). -/
def waited (s : State) : State :=
  addDelay (emit (.delay s.pollD) (countRead (drawn (.read 0xF3 1 true [byteAt s 0 0]) s)))

/-- A pass that loops (R150). -/
theorem pollPass_again (rd : Bool) {tmo : BitVec 32} {s : State} (h : okAt s 0 = true)
    (hr : byteAt s 0 0 &&& 0x05#8 ≠ 0#8) (ht : tmo = 0#32 ∨ (s.pollTotal + s.pollD.setWidth 64).toNat ≤ tmo.toNat) :
    pollPass rd tmo s = loopAgain rd tmo (waited s) := by
  rw [pollPass_unready rd tmo h hr, pollWait_again rd (by simpa using ht), waited]
  simp
/-- A pass that times out (R150). -/
theorem pollPass_times_out (rd : Bool) {tmo : BitVec 32} {s : State} (h : okAt s 0 = true)
    (hr : byteAt s 0 0 &&& 0x05#8 ≠ 0#8) (h0 : tmo ≠ 0#32) (ht : tmo.toNat < (s.pollTotal + s.pollD.setWidth 64).toNat) :
    pollPass rd tmo s = pollFinish .timeout (waited s) := by
  rw [pollPass_unready rd tmo h hr, pollWait_times_out rd h0 (by simpa using ht), waited]
  simp

@[simp] theorem measurementDone_eq (s : State) :
    measurementDone s = setMode (if s.mode = modeForced then modeSleep else s.mode) s := rfl

/-- Ending a POLL (R150). -/
@[simp] theorem pollFinish_eq (code : OutcomeCode) (s : State) :
    pollFinish code s = finish code (s.pollTotal.setWidth 32) false s := rfl

/-! ## Running or refusing a command -/

/-- A command that passes its pre-checks runs its body. -/
theorem exec_of_pass {i : Instr} {s : State} (h : preCheck i s = none) : exec i s = .next (bodyOf i s) := by
  simp [exec_eq, guarded, h]

/-- A command that a pre-check refuses ends with its code. -/
theorem exec_of_refuse {i : Instr} {s : State} {code : OutcomeCode} (h : preCheck i s = some code) :
    exec i s = .next (finish code 0 false s) := by
  simp [exec_eq, guarded, h]

end Sys2Proof.Machine
end

