-- ==== Sys2Proof/Laws/Paths.lean ====
section
/-! SUPPORT. Everything the body of a command can do, one inversion lemma per body: the paths of its rule, each with the
answers that take it and the state it leaves, in the named updates of Machine/Ops.lean. Statements about all commands
go through these and never unfold a body. -/

namespace Sys2Proof.Machine

/-- OPEN past its pre-checks (spec/40_calibration.md R121). -/
theorem openBody_cases (s : State) :
    (okAt s 0 = false ∧ openBody s = openFail .transportError 0 (drawn (.read 0xD0 1 false []) s)) ∨
    (okAt s 0 = true ∧ byteAt s 0 0 ≠ 0x60#8 ∧ openBody s =
      openFail .identityMismatch (zext 32 (byteAt s 0 0)) (drawn (.read 0xD0 1 true [byteAt s 0 0]) s)) ∨
    (okAt s 0 = true ∧ byteAt s 0 0 = 0x60#8 ∧ okAt s 1 = false ∧ openBody s = openFail .transportError 0x60#32
      (drawn (.read 0x88 26 false []) (drawn (.read 0xD0 1 true [0x60#8]) s))) ∨
    (okAt s 0 = true ∧ byteAt s 0 0 = 0x60#8 ∧ okAt s 1 = true ∧ okAt s 2 = false ∧
      openBody s = openFail .transportError 0x60#32 (drawn (.read 0xE1 7 false []) (setCalBuf (calAfterX2 s)
        (drawn (.read 0x88 26 true (bytesAt 26 s 1).toList) (drawn (.read 0xD0 1 true [0x60#8]) s))))) ∨
    (okAt s 0 = true ∧ byteAt s 0 0 = 0x60#8 ∧ okAt s 1 = true ∧ okAt s 2 = true ∧
      openBody s = finish .ok 0x60#32 false (loadCoeffs (setCalBuf (calAfterX3 s)
        (drawn (.read 0xE1 7 true (bytesAt 7 s 2).toList) (setCalBuf (calAfterX2 s)
          (drawn (.read 0x88 26 true (bytesAt 26 s 1).toList) (drawn (.read 0xD0 1 true [0x60#8]) s))))))) := by
  cases h0 : okAt s 0 with
  | false => exact .inl ⟨rfl, openBody_x1_fails h0⟩
  | true =>
    right
    by_cases hid : byteAt s 0 0 = 0x60#8
    · right
      have hb := openBody_identified h0 hid
      cases h1 : okAt s 1 with
      | false =>
        exact .inl ⟨rfl, hid, rfl, by rw [hb, openCalibration_x2_fails _ (by simpa using h1)]; rfl⟩
      | true =>
        right
        cases h2 : okAt s 2 with
        | false =>
          refine .inl ⟨rfl, hid, rfl, rfl, ?_⟩
          rw [hb, openCalibration_x3_fails _ (by simpa using h1) (by simpa using h2)]
          simp [← storeBlock_first, zext]
        | true =>
          refine .inr ⟨rfl, hid, rfl, rfl, ?_⟩
          rw [hb, openCalibration_reads _ (by simpa using h1) (by simpa using h2)]
          simp [openDone, ← storeBlock_first, ← storeBlock_both, zext, Config.expectedId, Config.lenCalib00]
    · exact .inl ⟨rfl, hid, openBody_mismatch h0 hid⟩

/-- TRIGGER_FORCED past its pre-checks (41_mode_control.md R142). -/
theorem triggerForcedBody_cases (ot op oh : BitVec 3) (s : State) :
    let hum : Event := .write 0xF2 (ctrlHumByte oh) true
    (okAt s 0 = false ∧ triggerForcedBody ot op oh s =
      finish .transportError 0 false (drawn (.write 0xF2 (ctrlHumByte oh) false) s)) ∨
    (okAt s 0 = true ∧ okAt s 1 = false ∧ triggerForcedBody ot op oh s = finish .transportError 0 false
      (drawn (.write 0xF4 (ctrlMeasByte ot op modeForced) false) (setOsrsH oh (drawn hum s)))) ∨
    (okAt s 0 = true ∧ okAt s 1 = true ∧ triggerForcedBody ot op oh s = finish .ok 0 false (setMode modeForced
      (setOsrsTP ot op (drawn (.write 0xF4 (ctrlMeasByte ot op modeForced) true) (setOsrsH oh (drawn hum s)))))) := by
  cases h0 : okAt s 0 <;> cases h1 : okAt s 1 <;>
    simp [triggerForcedBody, h0, h1, Config.regCtrlHum, Config.regCtrlMeas]

/-- START_NORMAL past its pre-checks (R144). -/
theorem startNormalBody_cases (sb : BitVec 3) (s : State) :
    let conf : Event := .write 0xF5 (configByte sb) true
    (okAt s 0 = false ∧ startNormalBody sb s =
      finish .transportError 0 false (drawn (.write 0xF5 (configByte sb) false) s)) ∨
    (okAt s 0 = true ∧ okAt s 1 = false ∧ startNormalBody sb s = finish .transportError 0 false
      (drawn (.write 0xF4 (ctrlMeas s modeNormal) false) (setSb sb (drawn conf s)))) ∨
    (okAt s 0 = true ∧ okAt s 1 = true ∧ startNormalBody sb s = finish .ok (s.sessionGen + 1) false (startSession
      (emit (.sessionCreate sb) (setMode modeNormal
        (drawn (.write 0xF4 (ctrlMeas s modeNormal) true) (setSb sb (drawn conf s))))))) := by
  cases h0 : okAt s 0 <;> cases h1 : okAt s 1 <;>
    simp [startNormalBody, h0, h1, Config.regConfig, Config.regCtrlMeas]

/-- STOP past its pre-checks (R146). -/
theorem stopBody_cases (s : State) :
    (s.sessionActive = false ∧ stopBody s = finish .ok 0 false s) ∨
    (s.sessionActive = true ∧ okAt s 0 = true ∧ stopBody s = finish .ok 0 false (setMode modeSleep
      (endSession (emit .sessionRelease (drawn (.write 0xF4 (ctrlMeas s modeSleep) true) s))))) ∨
    (s.sessionActive = true ∧ okAt s 0 = false ∧ stopBody s = finish .transportError 0 false
      (endSession (emit .sessionRelease (drawn (.write 0xF4 (ctrlMeas s modeSleep) false) s)))) := by
  cases h : s.sessionActive <;> cases h0 : okAt s 0 <;> simp [stopBody, sleepOutcome, h, h0, Config.regCtrlMeas]

/-- CLOSE past its pre-checks (R148). -/
theorem closeBody_cases (s : State) :
    (s.isOpen = false ∧ closeBody s = finish .ok 0 false s) ∨
    (s.isOpen = true ∧ okAt s 0 = true ∧ closeBody s = finish .ok 0 false (setMode modeSleep
      (clearValidity (releaseIfLive (drawn (.write 0xF4 (ctrlMeas s modeSleep) true) s))))) ∨
    (s.isOpen = true ∧ okAt s 0 = false ∧ closeBody s = finish .transportError 0 false
      (clearValidity (releaseIfLive (drawn (.write 0xF4 (ctrlMeas s modeSleep) false) s)))) := by
  cases h : s.isOpen <;> cases h0 : okAt s 0 <;> simp [closeBody, sleepOutcome, h, h0, Config.regCtrlMeas]

/-- One pass of POLL's loop (R150). -/
theorem pollPass_cases (rd : Bool) (tmo : BitVec 32) (s : State) :
    let st : Event := .read 0xF3 1 true [byteAt s 0 0]
    (okAt s 0 = false ∧ pollPass rd tmo s =
      pollFinish .transportError (countRead (drawn (.read 0xF3 1 false []) s))) ∨
    (okAt s 0 = true ∧ byteAt s 0 0 &&& 0x05#8 = 0#8 ∧
      ((rd = false ∧ pollPass rd tmo s = pollFinish .ok (measurementDone (countRead (drawn st s)))) ∨
      (rd = true ∧ okAt s 1 = false ∧ pollPass rd tmo s = pollFinish .transportError
        (drawn (.read 0xF7 8 false []) (measurementDone (countRead (drawn st s))))) ∨
      (rd = true ∧ okAt s 1 = true ∧ pollPass rd tmo s = pollFinish .ok (takeSample (bytesAt 8 s 1)
        (drawn (.read 0xF7 8 true (bytesAt 8 s 1).toList) (measurementDone (countRead (drawn st s)))))))) ∨
    (okAt s 0 = true ∧ byteAt s 0 0 &&& 0x05#8 ≠ 0#8 ∧
      ((tmo ≠ 0#32 ∧ tmo.toNat < (s.pollTotal + s.pollD.setWidth 64).toNat ∧
        pollPass rd tmo s = pollFinish .timeout (waited s)) ∨
      ((tmo = 0#32 ∨ (s.pollTotal + s.pollD.setWidth 64).toNat ≤ tmo.toNat) ∧
        pollPass rd tmo s = loopAgain rd tmo (waited s)))) := by
  cases h0 : okAt s 0 with
  | false => exact .inl ⟨rfl, pollPass_x7_fails rd tmo h0⟩
  | true =>
    right
    by_cases hr : byteAt s 0 0 &&& 0x05#8 = 0#8
    · refine .inl ⟨rfl, hr, ?_⟩
      rw [pollPass_ready rd tmo h0 hr]
      cases rd with
      | false => exact .inl ⟨rfl, rfl⟩
      | true =>
        cases h1 : okAt s 1 with
        | false => exact .inr (.inl ⟨rfl, rfl, by rw [pollReady_x8_fails (by simpa using h1)]⟩)
        | true => exact .inr (.inr ⟨rfl, rfl, by rw [pollReady_reads (by simpa using h1)]; simp⟩)
    · refine .inr ⟨rfl, hr, ?_⟩
      by_cases ht : tmo = 0#32 ∨ (s.pollTotal + s.pollD.setWidth 64).toNat ≤ tmo.toNat
      · exact .inr ⟨ht, pollPass_again rd h0 hr ht⟩
      · rw [not_or] at ht
        exact .inl ⟨ht.1, Nat.lt_of_not_le ht.2, pollPass_times_out rd h0 hr ht.1 (Nat.lt_of_not_le ht.2)⟩

/-- READ_RAW past its pre-checks (42_raw_reader.md R181). -/
theorem readRawBody_cases (s : State) :
    (okAt s 0 = false ∧ readRawBody s = finish .transportError 0 false (drawn (.read 0xF7 8 false []) s)) ∨
    (okAt s 0 = true ∧ readRawBody s = finish .ok 0 false (takeSample (bytesAt 8 s 0)
      (drawn (.read 0xF7 8 true (bytesAt 8 s 0).toList) s))) := by
  cases h0 : okAt s 0 <;> simp [readRawBody, h0, Config.regData, Config.lenData]

/-- COMP_P past its pre-checks (43_compensation.md R196, R198). -/
theorem compPBody_cases (s : State) :
    (pressVar1 s.coef s.tFine = 0 ∧ compPBody s = finish .ok 0 true s) ∨
    (pressVar1 s.coef s.tFine ≠ 0 ∧ compPBody s = finish .ok
      (pressStage2 s.coef s.raw.adcP (pressVar1 s.coef s.tFine) (pressVar2 s.coef s.tFine)) false s) := by
  by_cases h : pressVar1 s.coef s.tFine = 0
  · exact .inl ⟨h, by simp [compPBody, compPress, h]⟩
  · exact .inr ⟨h, by simp only [compPBody, compPress, if_neg h]⟩

/-- Every body but POLL's leaves the block IDLE (10_state.md R36). -/
theorem bodyOf_phase (i : Instr) (s : State) (h : ∀ cb rd tmo, i ≠ .poll cb rd tmo) : (bodyOf i s).phase = .idle := by
  cases i with
  | openCmd cb => obtain h | h | h | h | h := openBody_cases s <;> simp [bodyOf, h, openFail]
  | closeCmd cb => obtain h | h | h := closeBody_cases s <;> simp [bodyOf, h]
  | triggerForced cb ot op oh => obtain h | h | h := triggerForcedBody_cases ot op oh s <;> simp [bodyOf, h]
  | startNormal cb sb => obtain h | h | h := startNormalBody_cases sb s <;> simp [bodyOf, h]
  | stop cb => obtain h | h | h := stopBody_cases s <;> simp [bodyOf, h]
  | poll cb rd tmo => exact absurd rfl (h cb rd tmo)
  | readRaw cb => obtain h | h := readRawBody_cases s <;> simp [bodyOf, h]
  | compT cb => rfl
  | compP cb => rfl
  | compH cb => rfl

end Sys2Proof.Machine
end

