-- ==== Sys2Proof/Laws/PerInstr.lean ====
section
/-! SUPPORT. Statements made of every command, one lemma per constructor of `Instr`. Family `WellFormed`: every value of
`Instr` is well formed, since its operand types admit exactly the values the word can hold (spec/30_encoding.md R81). -/

namespace Sys2Proof.Laws.WellFormed

/-- The command's fields are those of a command word (R82, R83). -/
def Statement (i : Instr) : Prop := i.wf = true

theorem openCmd (cb : Bool) : Statement (.openCmd cb) := rfl
theorem closeCmd (cb : Bool) : Statement (.closeCmd cb) := rfl
theorem triggerForced (cb : Bool) (ot op oh : BitVec 3) : Statement (.triggerForced cb ot op oh) := rfl
theorem startNormal (cb : Bool) (sb : BitVec 3) : Statement (.startNormal cb sb) := rfl
theorem stop (cb : Bool) : Statement (.stop cb) := rfl
theorem poll (cb rd : Bool) (tmo : BitVec 32) : Statement (.poll cb rd tmo) := rfl
theorem readRaw (cb : Bool) : Statement (.readRaw cb) := rfl
theorem compT (cb : Bool) : Statement (.compT cb) := rfl
theorem compP (cb : Bool) : Statement (.compP cb) := rfl
theorem compH (cb : Bool) : Statement (.compH cb) := rfl

end Sys2Proof.Laws.WellFormed
end

