-- ==== Sys2Proof/Tests/Slice0.lean ====
section
/-! SUPPORT. The model's own tests, each on fixed values whose expected result is in the spec (95_test_vectors.md, or the
rule named), and one witness for each statement that has hypotheses: a concrete state and operands that meet them
together. -/

open Sys2Proof Sys2Proof.Machine

namespace Sys2Proof.Tests

/-! ## WellFormed: one ill-formed term for each check (R82, R83, R100) -/

/-- The fields of `OPEN`. -/
def openFields : Fields := (Instr.openCmd false).fields

theorem test_wf_open : openFields.wf = true := by decide
theorem test_wf_refuses_reserved_low : { openFields with rsvLow := 1 }.wf = false := by decide
theorem test_wf_refuses_reserved_high : { openFields with rsvHigh := 0x800 }.wf = false := by decide
theorem test_wf_refuses_rd : { openFields with rd := true }.wf = false := by decide
theorem test_wf_refuses_ot : { openFields with ot := 1 }.wf = false := by decide
theorem test_wf_refuses_op : { openFields with op := 1 }.wf = false := by decide
theorem test_wf_refuses_oh : { openFields with oh := 1 }.wf = false := by decide
theorem test_wf_refuses_sb : { openFields with sb := 1 }.wf = false := by decide
theorem test_wf_refuses_tmo : { openFields with tmo := 1 }.wf = false := by decide
theorem test_wf_refuses_reserved_opcodes :
    ([0x0, 0xB, 0xC, 0xD, 0xE, 0xF] : List (BitVec 4)).all (fun o => !{ openFields with opc := o }.wf) = true := by decide

/-! ## Decoding: the words of V-ENC-1 to V-ENC-27, and one word per command cut into the fields of R80 -/

theorem test_decode_commands :
    decode 0x0000000000000001 = some (.openCmd false) ∧ decode 0x0000000000000002 = some (.closeCmd false) ∧
    decode 0x0000000000004903 = some (.triggerForced false 1 1 1) ∧
    decode 0x0000000000006A03 = some (.triggerForced false 2 5 1) ∧
    decode 0x000000000001FF03 = some (.triggerForced false 7 7 7) ∧
    decode 0x00000000000A0004 = some (.startNormal false 5) ∧ decode 0x00000000000E0004 = some (.startNormal false 7) ∧
    decode 0x0000000000000005 = some (.stop false) ∧ decode 0x0000000000000006 = some (.poll false false 0) ∧
    decode 0x0000006400000026 = some (.poll false true 100) ∧
    decode 0xFFFFFFFF00000026 = some (.poll false true 0xFFFFFFFF) ∧
    decode 0x0000000000000007 = some (.readRaw false) ∧ decode 0x0000000000000008 = some (.compT false) ∧
    decode 0x0000000000000009 = some (.compP false) ∧ decode 0x000000000000000A = some (.compH false) ∧
    decode 0x0000000000000018 = some (.compT true) ∧ decode 0x0000000000000011 = some (.openCmd true) ∧
    decode 0x8000000000000006 = some (.poll false false 0x80000000) := by decide

theorem test_decode_illegal :
    ([0x0, 0xB, 0xF, 0x41, 0x80000001, 0x28, 0x20003, 0x4904, 0x6400000007] : List CommandWord).all
      (fun w => (decode w).isNone) = true := by decide

/-- The fields of R80, most significant first: TMO, reserved, SB, OH, OP, OT, reserved, RD, CB, OPC. -/
theorem test_decode_by_fields :
    decode (0#32 ++ 0#12 ++ 0b000#3 ++ 0b110#3 ++ 0b010#3 ++ 0b001#3 ++ 0b00#2 ++ 0b0#1 ++ 0b0#1 ++ 0b0011#4) =
      some (.triggerForced false 1 2 6) ∧
    decode (0#32 ++ 0#12 ++ 0b011#3 ++ 0b000#3 ++ 0b000#3 ++ 0b000#3 ++ 0b00#2 ++ 0b0#1 ++ 0b1#1 ++ 0b0100#4) =
      some (.startNormal true 3) ∧
    decode (0x12345678#32 ++ 0#12 ++ 0b000#3 ++ 0b000#3 ++ 0b000#3 ++ 0b000#3 ++ 0b00#2 ++ 0b1#1 ++ 0b0#1 ++ 0b0110#4) =
      some (.poll false true 0x12345678) := by decide

/-- R102's example, and lines of V-ENC in the notation. -/
theorem test_assembler :
    Assembler.words "POLL.R tmo=100" = some [0x0000006400000026] ∧
    Assembler.words "TRIGGER_FORCED t=2 p=5 h=1" = some [0x0000000000006A03] ∧
    Assembler.words "START_NORMAL sb=7" = some [0x00000000000E0004] ∧
    Assembler.words "OPEN @cb" = some [0x0000000000000011] ∧
    Assembler.words "START_NORMAL sb=8" = none := by decide

/-! ## Small states -/

/-- An answer of the transport that succeeds with these bytes. -/
def good (bytes : List Byte) : Answer := ⟨true, bytes⟩

/-- An answer that fails. -/
def bad : Answer := ⟨false, []⟩

/-- After reset, with answers to come. -/
def fresh (answers : List Answer) : State := { State.reset with answers := answers }

/-- The block open, with answers to come. -/
def opened (answers : List Answer) : State := { fresh answers with isOpen := true }

/-- A Normal session live after V-MODE-3. -/
def live (answers : List Answer) : State :=
  { opened answers with mode := 3, sb := 5, osrsT := 2, osrsP := 5, osrsH := 1, sessionActive := true, sessionGen := 1 }

/-- The bytes of V-CAL-1 that X2 answers. -/
def calBlock1 : List Byte :=
  [0x70, 0x6B, 0x43, 0x67, 0x18, 0xFC, 0x7D, 0x8E, 0x43, 0xD6, 0xD0, 0x0B, 0x27, 0x0B, 0x8C, 0x00, 0xF9, 0xFF, 0x8C,
    0x3C, 0xF8, 0xC6, 0x70, 0x17, 0x00, 0x4B]

/-- The bytes of V-CAL-1 that X3 answers. -/
def calBlock2 : List Byte := [0x6A, 0x01, 0x00, 0x13, 0x29, 0x03, 0x1E]

/-- The coefficients of V-CAL-1, as the spec lists them. -/
def exampleCoeffs : Coeffs where
  t1 := 27504
  t2 := 26435
  t3 := BitVec.ofInt 16 (-1000)
  p1 := 36477
  p2 := BitVec.ofInt 16 (-10685)
  p3 := 3024
  p4 := 2855
  p5 := 140
  p6 := BitVec.ofInt 16 (-7)
  p7 := 15500
  p8 := BitVec.ofInt 16 (-14600)
  p9 := 6000
  h1 := 75
  h2 := 362
  h3 := 0
  h4 := 313
  h5 := 50
  h6 := 30

/-- The state in which V-T, V-P and V-H are taken: V-CAL-1, the given raw fields and `t_fine`. -/
def sampled (raw : Raw) (tFine : BitVec 32) : State :=
  { opened [] with coef := exampleCoeffs, raw := raw, rawValid := true, tFine := tFine, tfValid := true }

/-- The raw fields of V-RAW-1. -/
def rawOne : Raw := ⟨415148, 519888, 28255⟩

/-- A field of the state a command leaves. -/
def after {α : Type} (f : State → α) (o : Host.Outcome State Fault Refusal) : Option α :=
  match o with
  | .next t => some (f t)
  | .fault _ | .refused _ => none

/-- STS and RES after a command. -/
def outputs (o : Host.Outcome State Fault Refusal) : Option (BitVec 8 × BitVec 32) := after (fun t => (t.sts, t.res)) o

/-! ## One step per command -/

/-- V-OPEN-1, V-CAL-1. -/
theorem test_open_ok :
    let o := exec (.openCmd false) (fresh [good [0x60], good calBlock1, good calBlock2])
    outputs o = some (0x00, 0x60) ∧ after (fun t => (t.coef, t.isOpen)) o = some (exampleCoeffs, true) := by decide

/-- V-OPEN-2. -/
theorem test_open_mismatch :
    let o := exec (.openCmd false) (fresh [good [0x58]])
    outputs o = some (0x02, 0x58) ∧ after State.trace o = some [.read 0xD0 1 true [0x58]] := by decide

/-- V-MODE-7. -/
theorem test_close_live :
    after State.trace (exec (.closeCmd false) (live [good []])) = some [.write 0xF4 0x54 true, .sessionRelease] ∧
    after (fun t => (t.isOpen, t.mode, t.sessionActive)) (exec (.closeCmd false) (live [good []])) =
      some (false, 0, false) := by decide

/-- V-MODE-2. -/
theorem test_trigger_forced :
    let o := exec (.triggerForced false 2 5 1) (opened [good [], good []])
    after State.trace o = some [.write 0xF2 0x01 true, .write 0xF4 0x55 true] ∧
    after (fun t => (t.mode, t.osrsT, t.osrsP, t.osrsH)) o = some (1, 2, 5, 1) := by decide

/-- V-MODE-10. -/
theorem test_trigger_forced_x5_fails :
    after (fun t => (t.sts, t.mode, t.osrsT, t.osrsH)) (exec (.triggerForced false 1 1 1) (opened [good [], bad])) =
      some (0x01, 0, 0, 1) := by decide

/-- V-MODE-4. -/
theorem test_start_normal :
    let o := exec (.startNormal false 6) (opened [good [], good []])
    outputs o = some (0x00, 1) ∧
    after State.trace o = some [.write 0xF5 0xC0 true, .write 0xF4 0x03 true, .sessionCreate 6] := by decide

/-- V-MODE-15. -/
theorem test_start_normal_wraps :
    outputs (exec (.startNormal false 0) { opened [good [], good []] with sessionGen := 0xFFFFFFFF }) =
      some (0x00, 0) := by decide

/-- V-MODE-13. -/
theorem test_stop_write_fails :
    after (fun t => (t.sts, t.mode, t.sessionActive)) (exec (.stop false) (live [bad])) = some (0x01, 3, false) := by
  decide

/-- V-POLL-3: one delay, then TIMEOUT. -/
theorem test_poll_timeout :
    let o := exec (.poll false false 1) (opened [good [0x0C]])
    outputs o = some (0x03, 0x02) ∧ after State.trace o = some [.read 0xF3 1 true [0x0C], .delay 2] := by decide

/-- V-POLL-8 with RD = 1 and the bytes of V-RAW-1. -/
theorem test_poll_ready_reads :
    let o := exec (.poll false true 10) (opened [good [0x08], good [0x65, 0x5A, 0xC0, 0x7E, 0xED, 0x00, 0x6E, 0x5F]])
    outputs o = some (0x00, 0x00) ∧ after (fun t => (t.raw, t.rawValid)) o = some (rawOne, true) := by decide

/-- V-RAW-5. -/
theorem test_read_raw :
    after State.raw (exec (.readRaw false) (opened [good [0x12, 0x34, 0x5F, 0xAB, 0xCD, 0xEF, 0x01, 0x02]])) =
      some ⟨74565, 703710, 258⟩ := by decide

/-- V-T-1. -/
theorem test_comp_t :
    let o := exec (.compT false) (sampled rawOne 0)
    outputs o = some (0x00, 0x000009CC) ∧ after State.tFine o = some 128422 := by decide

/-- V-T-4: the square wraps. -/
theorem test_comp_t_wraps :
    outputs (exec (.compT true)
      { sampled ⟨0, 1048575, 0⟩ 0 with coef := { exampleCoeffs with t1 := 0 } }) = some (0x00, 0xFFFFE114) := by decide

/-- V-P-4: a negative `p` wraps. -/
theorem test_comp_p_wraps :
    outputs (exec (.compP false) (sampled ⟨1048575, 0, 0⟩ 128422)) = some (0x00, 0xFFE61920) := by decide

/-- V-P-2: the degenerate case. -/
theorem test_comp_p_degenerate :
    outputs (exec (.compP false) { sampled rawOne 128422 with coef := { exampleCoeffs with p1 := 0 } }) =
      some (0x10, 0) := by decide

/-- V-H-1. -/
theorem test_comp_h :
    outputs (exec (.compH false) (sampled rawOne 128422)) = some (0x00, 0x0000B523) := by decide

/-- V-H-3: the lower clamp. -/
theorem test_comp_h_clamps :
    outputs (exec (.compH false)
      { sampled rawOne 128422 with coef := { exampleCoeffs with h4 := 0xABD, h5 := 0xEFC } }) = some (0x00, 0) := by
  decide

/-- V-EXC-1 through the port, and V-EXC-11. -/
theorem test_illegal_and_context :
    outputs (step (State.withFetchWord State.reset 64 0)) = some (0x08, 0) ∧
    outputs (exec (.triggerForced true 1 1 1) (live [])) = some (0x09, 0) := by decide

/-! ## Witnesses: the hypotheses of each statement hold together somewhere, clause by clause -/

theorem witness_EncodeOfDecodeIsTheWord : decode 0xFFFFFFFF00000026 = some (.poll false true 0xFFFFFFFF) := by decide

/-- An illegal word and a legal one; the illegal one on the port. -/
theorem witness_DecodingFollowsTheMaskTable :
    decode 0x41 = none ∧ decode 0x1FF13 = some (.triggerForced true 7 7 7) ∧
    (State.withFetchWord State.reset 64 0x41).phase = .idle ∧
    (State.withFetchWord State.reset 64 0x41).port = [0x41] := by decide

/-- One word for each way to be illegal: a reserved opcode at either end, the reserved bits, and each field. -/
theorem witness_IllegalWordsOnlySetTheOutputs :
    (State.withFetchWord State.reset 64 0x41).phase = .idle ∧
    (State.withFetchWord State.reset 64 0x41).port = [0x41] ∧
    (let opc (w : CommandWord) := (w.extractLsb' 0 4).toNat;
      opc 0x0 = 0 ∧ 11 ≤ opc 0xB ∧ 11 ≤ opc 0xF ∧ (0x41 : CommandWord).extractLsb' 6 2 ≠ 0 ∧
      (0x80000001 : CommandWord).extractLsb' 20 12 ≠ 0 ∧ ((0x28 : CommandWord).getLsbD 5 = true ∧ opc 0x28 ≠ 6) ∧
      ((0x10001 : CommandWord).extractLsb' 8 9 ≠ 0 ∧ opc 0x10001 ≠ 3) ∧
      ((0x20003 : CommandWord).extractLsb' 17 3 ≠ 0 ∧ opc 0x20003 ≠ 4) ∧
      ((0x6400000007 : CommandWord).extractLsb' 32 32 ≠ 0 ∧ opc 0x6400000007 ≠ 6)) := by decide

theorem witness_StepRunsTheDecodedCommand :
    (State.withFetchWord State.reset 64 0x8).phase = .idle ∧
    (State.withFetchWord State.reset 64 0x8).port = [0x8] ∧ decode 0x8 = some (.compT false) := by decide

/-- A POLL that runs, after `k` delays of the schedule: the registers are those of R151. -/
def polling (rd : Bool) (tmo : BitVec 32) (d : BitVec 16) (total : BitVec 64) (reads : BitVec 32)
    (answers : List Answer) : State :=
  { opened answers with pollD := d, pollTotal := total, pollReads := reads, phase := .busy rd tmo }

theorem witness_OnlyAnIdleBlockTakesACommand :
    (polling true 100 4 2 1 [good [0x04]]).phase = .busy true 100 ∧
    State.reset.phase = .idle ∧ State.reset.port = [] := by decide

/-- A state with a session, a sample and a fresh `t_fine` meets the invariant and takes a step. -/
theorem witness_StepKeepsTheInvariant :
    let s : State :=
      { live [good []] with coef := decodeCal (live []).calBuf, raw := rawOne, rawValid := true, port := [0x5] }
    Consistent s ∧ ∃ t, step s = .next t := by
  refine ⟨⟨?_, ?_, ?_, ?_, ?_, ?_, ?_, ?_, ?_, ?_⟩, _, rfl⟩ <;> decide

/-- The schedule after five delays, one under the timeout. -/
theorem witness_StepKeepsThePollOnSchedule :
    PollProgress (polling true 100 64 62 5 [good [0x04]]) ∧
    ∃ t, step (polling true 100 64 62 5 [good [0x04]]) = .next t := by
  refine ⟨?_, _, rfl⟩
  intro rd tmo h
  obtain ⟨rfl, rfl⟩ : true = rd ∧ 100#32 = tmo := by simpa [polling] using h
  exact ⟨5, by decide⟩

/-- Each check of R231 applies somewhere, with the earlier ones not applying. -/
theorem witness_PreChecksApplyInOrder :
    preCheck (.openCmd true) State.reset = some .context ∧
    preCheck (.compT true) State.reset = some .notOpen ∧
    preCheck (.openCmd false) { State.reset with sessionActive := true } = some .sessionActive ∧
    preCheck (.triggerForced false 0 0 0) (live []) = some .sessionActive ∧
    preCheck (.compT false) (opened []) = some .noSample ∧
    preCheck (.compP true) { opened [] with rawValid := true } = some .noTfine := by decide

/-- The answers that take each path of OPEN. -/
theorem witness_OpenFollowsItsRule :
    (live []).sessionActive = true ∧ (fresh [bad]).sessionActive = false ∧ okAt (fresh [bad]) 0 = false ∧
    (okAt (fresh [good [0x61]]) 0 = true ∧ byteAt (fresh [good [0x61]]) 0 0 ≠ 0x60) ∧
    (let s := fresh [good [0x60], bad]; okAt s 0 = true ∧ byteAt s 0 0 = 0x60 ∧ okAt s 1 = false) ∧
    (let s := fresh [good [0x60], good calBlock1, bad];
      okAt s 0 = true ∧ byteAt s 0 0 = 0x60 ∧ okAt s 1 = true ∧ okAt s 2 = false) ∧
    (let s := fresh [good [0x60], good calBlock1, good calBlock2];
      okAt s 0 = true ∧ byteAt s 0 0 = 0x60 ∧ okAt s 1 = true ∧ okAt s 2 = true) := by decide

/-- The paths of TRIGGER_FORCED and START_NORMAL, from mode 0 and from mode 3 with no session. -/
theorem witness_TriggerForcedFollowsItsRule :
    (fresh []).isOpen = false ∧ ((live []).isOpen = true ∧ (live []).sessionActive = true) ∧
    (let s := opened [bad]; s.isOpen = true ∧ s.sessionActive = false ∧ okAt s 0 = false) ∧
    (let s := opened [good [], bad]; s.sessionActive = false ∧ okAt s 0 = true ∧ okAt s 1 = false) ∧
    (let s := { opened [good [], good []] with mode := 3 };
      s.isOpen = true ∧ s.sessionActive = false ∧ okAt s 0 = true ∧ okAt s 1 = true) := by decide

theorem witness_StartNormalFollowsItsRule :
    (fresh []).isOpen = false ∧ ((live []).isOpen = true ∧ (live []).sessionActive = true) ∧
    (let s := opened [bad]; s.isOpen = true ∧ s.sessionActive = false ∧ okAt s 0 = false) ∧
    (let s := opened [good [], bad]; s.sessionActive = false ∧ okAt s 0 = true ∧ okAt s 1 = false) ∧
    (let s := { opened [good [], good []] with sessionGen := 0xFFFFFFFF, osrsT := 7, osrsP := 7 };
      s.isOpen = true ∧ s.sessionActive = false ∧ okAt s 0 = true ∧ okAt s 1 = true) := by decide

theorem witness_StopFollowsItsRule :
    (fresh []).sessionActive = false ∧ ((live [good []]).sessionActive = true ∧ okAt (live [good []]) 0 = true) ∧
    ((live [bad]).sessionActive = true ∧ okAt (live [bad]) 0 = false) := by decide

theorem witness_CloseFollowsItsRule :
    (fresh []).isOpen = false ∧ ((opened [good []]).isOpen = true ∧ okAt (opened [good []]) 0 = true) ∧
    ((live [bad]).isOpen = true ∧ okAt (live [bad]) 0 = false) := by decide

/-- The paths of one pass of POLL, the timeout at its boundary: a total of 126 passes 125 and does not pass 126, nor
0 (R150, V-POLL-4). -/
theorem witness_PollFollowsItsRule :
    (let s := polling false 0 2 0 0 [bad]; s.phase = .busy false 0 ∧ okAt s 0 = false) ∧
    (let s := polling false 0 2 0 0 [good [0xFA]]; okAt s 0 = true ∧ byteAt s 0 0 &&& 0x05 = 0) ∧
    (let s := polling true 0 2 0 0 [good [0xFA], bad]; okAt s 0 = true ∧ byteAt s 0 0 &&& 0x05 = 0 ∧ okAt s 1 = false) ∧
    (let s := polling true 0 2 0 0 [good [0xFA], good []];
      okAt s 0 = true ∧ byteAt s 0 0 &&& 0x05 = 0 ∧ okAt s 1 = true) ∧
    (let s := polling true 125 64 62 5 [good [0x04]];
      okAt s 0 = true ∧ byteAt s 0 0 &&& 0x05 ≠ 0 ∧ (125 : BitVec 32) ≠ 0 ∧
        (125 : BitVec 32).toNat < (s.pollTotal + s.pollD.setWidth 64).toNat) ∧
    (let s := polling true 126 64 62 5 [good [0x01]];
      okAt s 0 = true ∧ byteAt s 0 0 &&& 0x05 ≠ 0 ∧
        (s.pollTotal + s.pollD.setWidth 64).toNat ≤ (126 : BitVec 32).toNat) ∧
    (let s := polling true 0 32768 0xFFFFFFFFFFFFFFFF 5 [good [0x05]];
      s.phase = .busy true 0 ∧ okAt s 0 = true ∧ byteAt s 0 0 &&& 0x05 ≠ 0) := by decide

theorem witness_PollOfAReadyDeviceEndsAtOnce :
    let s := { opened [good [0x08], good []] with mode := 1 }
    s.isOpen = true ∧ okAt s 0 = true ∧ byteAt s 0 0 &&& 0x05 = 0 ∧ okAt s 1 = true := by decide

theorem witness_ReadRawFollowsItsRule :
    (fresh []).isOpen = false ∧ ((opened [bad]).isOpen = true ∧ okAt (opened [bad]) 0 = false) ∧
    ((opened [good []]).isOpen = true ∧ okAt (opened [good []]) 0 = true) := by decide

theorem witness_CompTFollowsItsRule :
    (fresh []).isOpen = false ∧ ((opened []).isOpen = true ∧ (opened []).rawValid = false) ∧
    ((sampled rawOne 0).isOpen = true ∧ (sampled rawOne 0).rawValid = true) := by decide

theorem witness_CompPFollowsItsRule :
    (fresh []).isOpen = false ∧ ((opened []).isOpen = true ∧ (opened []).tfValid = false) ∧
    ((sampled rawOne 128422).isOpen = true ∧ (sampled rawOne 128422).tfValid = true ∧
      Reference.pressVar1 { exampleCoeffs with p1 := 0 } 128422 = 0 ∧
      Reference.pressVar1 exampleCoeffs 128422 = 597560748) := by decide

theorem witness_CompHFollowsItsRule :
    (fresh []).isOpen = false ∧ ((opened []).isOpen = true ∧ (opened []).tfValid = false) ∧
    ((sampled rawOne 128422).isOpen = true ∧ (sampled rawOne 128422).tfValid = true) := by decide

/-- An OPEN that succeeds, and the first and the last register of each block. -/
theorem witness_CalBufHoldsEachRegisterAtItsIndex :
    (∃ t, exec (.openCmd false) (fresh [good [0x60], good calBlock1, good calBlock2]) = .next t ∧ t.sts = 0x00) ∧
    calIndex 0x88 = some 0 ∧ calIndex 0xA1 = some 25 ∧ calIndex 0xE1 = some 26 ∧ calIndex 0xE7 = some 32 ∧
    calIndex 0xA2 = none ∧ calIndex 0xE0 = none := by
  refine ⟨⟨_, rfl, ?_⟩, ?_⟩ <;> decide

/-- Two histories, and two calibrations that differ in byte 24 only. -/
theorem witness_OpenDecodesIndependentlyOfHistory :
    let s := fresh [good [0x60], good calBlock1, good calBlock2]
    let s' := { sampled rawOne 7 with answers := [good [0x60], good (calBlock1.set 24 0xFF), good calBlock2] }
    (∃ t, exec (.openCmd false) s = .next t ∧ t.sts = 0x00) ∧ (∃ t, exec (.openCmd false) s' = .next t ∧ t.sts = 0x00) ∧
    (∀ i < 26, i ≠ 24 → byteAt s 1 i = byteAt s' 1 i) ∧ ∀ i < 7, byteAt s 2 i = byteAt s' 2 i := by
  refine ⟨⟨_, rfl, ?_⟩, ⟨_, rfl, ?_⟩, ?_⟩ <;> decide

/-- Two states that agree on the inputs of COMP_T, COMP_P and COMP_H and differ elsewhere. -/
theorem witness_ResultsDependOnTheirInputsAlone :
    let s := sampled rawOne 128422
    let s' := { live [] with coef := exampleCoeffs, raw := rawOne, rawValid := true, tFine := 128422, tfValid := true }
    s ≠ s' ∧ s.isOpen = true ∧ s'.isOpen = true ∧ s.rawValid = true ∧ s'.rawValid = true ∧ s.tfValid = true ∧
      s'.tfValid = true ∧ s.tFine = s'.tFine ∧ s.raw = s'.raw ∧ s.coef = s'.coef ∧
      (∃ t, exec (.compP true) s = .next t) ∧ ∃ t, exec (.compP true) s' = .next t :=
  ⟨by decide, by decide, by decide, by decide, by decide, by decide, by decide, by decide, by decide, by decide,
    ⟨_, rfl⟩, ⟨_, rfl⟩⟩

/-- The first clause, and the five ways of the second. -/
theorem witness_PressureAndHumidityInAnyOrder :
    ((sampled rawOne 128422).isOpen = true ∧ (sampled rawOne 128422).tfValid = true ∧
      (∀ j ∈ [Instr.compH false, .compP true], usesTfine j) ∧ usesTfine (.compP false)) ∧
    (∃ t, exec (.readRaw false) { sampled rawOne 7 with answers := [good []] } = .next t ∧ t.sts = 0x00) ∧
    (∃ t, step (polling true 0 2 0 0 [good [0x00], good []]) = .next t ∧ t.phase = .idle ∧ t.sts = 0x00) ∧
    (∃ t, exec (.poll false true 0) { sampled rawOne 7 with answers := [good [0x00], good []] } = .next t ∧
      t.phase = .idle ∧ t.sts = 0x00) ∧
    (∃ t, (sampled rawOne 7).sessionActive = false ∧
      exec (.openCmd false) { sampled rawOne 7 with answers := [bad] } = .next t) ∧
    (∃ t, exec (.closeCmd false) { sampled rawOne 7 with answers := [good []] } = .next t) := by
  refine ⟨⟨rfl, rfl, by simp [usesTfine], false, .inl rfl⟩, ⟨_, rfl, ?_⟩, ⟨_, rfl, ?_, ?_⟩, ⟨_, rfl, ?_, ?_⟩, ⟨_, rfl, rfl⟩,
    _, rfl⟩ <;> decide

/-- Steps that issue transactions: of a command, and of a POLL that runs. -/
theorem witness_OnlyTheListedTransactionsAreIssued :
    (∃ t, step { opened [bad] with port := [0x7] } = .next t ∧ t.trace ≠ []) ∧
    (∃ t, exec (.stop false) (live [bad]) = .next t ∧ t.trace ≠ []) ∧
    (∃ t, step (polling true 0 2 0 0 [bad]) = .next t ∧ t.trace ≠ []) := by
  refine ⟨⟨_, rfl, ?_⟩, ⟨_, rfl, ?_⟩, ⟨_, rfl, ?_⟩⟩ <;> decide

theorem witness_TransactionsHaveTwoForms :
    ∃ t, step { live [good []] with port := [0x5] } = .next t ∧ t.trace = [.write 0xF4 0x54 true, .sessionRelease] :=
  ⟨_, rfl, by decide⟩

/-- Commands and a POLL that change each flag, and a COMP_P that sets DEG. -/
theorem witness_FlagsAreWrittenOnlyAsListed :
    (∃ t, exec (.closeCmd false) { sampled rawOne 7 with answers := [bad] } = .next t ∧
      t.isOpen = false ∧ t.rawValid = false ∧ t.tfValid = false) ∧
    (∃ t, exec (.stop false) (live [bad]) = .next t ∧ t.sessionActive = false) ∧
    (∃ t, exec (.compP false) { sampled rawOne 7 with coef := Coeffs.zero } = .next t ∧ t.sts.getLsbD 4 = true) ∧
    (∃ t, step (polling true 0 2 0 0 [good [0x00], good []]) = .next t ∧ t.rawValid = true ∧ t.phase = .idle) := by
  refine ⟨⟨_, rfl, ?_⟩, ⟨_, rfl, ?_⟩, ⟨_, rfl, ?_⟩, ⟨_, rfl, ?_⟩⟩ <;> decide

theorem witness_RegistersAreWrittenOnlyByTheirOwners :
    (∃ t, exec (.triggerForced false 1 2 3) (opened [good [], good []]) = .next t ∧ t.osrsT = 1 ∧ t.osrsP = 2) ∧
    (∃ t, exec (.compT false) (sampled rawOne 7) = .next t ∧ t.tFine = 128422) ∧
    (∃ t, step (polling true 0 2 0 0 [good [0x00], good [0x65, 0x5A, 0xC0, 0x7E, 0xED, 0x00, 0x6E, 0x5F]]) = .next t ∧ t.raw ≠ ⟨0, 0, 0⟩) := by
  refine ⟨⟨_, rfl, ?_⟩, ⟨_, rfl, ?_⟩, ⟨_, rfl, ?_⟩⟩ <;> decide

/-- Each row of R140 that moves `mode`, by a command and by a running POLL. -/
theorem witness_ModeMovesOnlyAsTabled :
    (∃ t, exec (.triggerForced false 1 1 1) (opened [good [], good []]) = .next t ∧ t.mode = 1) ∧
    (∃ t, exec (.startNormal false 7) (opened [good [], good []]) = .next t ∧ t.mode = 3) ∧
    (∃ t, exec (.poll false false 0) { opened [good [0x08]] with mode := 1 } = .next t ∧ t.mode = 0) ∧
    (∃ t, exec (.stop false) (live [good []]) = .next t ∧ t.mode = 0) ∧
    (∃ t, exec (.closeCmd false) { opened [good []] with mode := 1 } = .next t ∧ t.mode = 0) ∧
    (∃ t, step { polling true 0 2 0 0 [good [0x00], bad] with mode := 1 } = .next t ∧ t.mode = 0) := by
  refine ⟨⟨_, rfl, ?_⟩, ⟨_, rfl, ?_⟩, ⟨_, rfl, ?_⟩, ⟨_, rfl, ?_⟩, ⟨_, rfl, ?_⟩, ⟨_, rfl, ?_⟩⟩ <;> decide

/-- A first STOP whose write failed. -/
theorem witness_StopIsIdempotent : ∃ t, exec (.stop false) (live [bad]) = .next t ∧ t.sts = 0x01 := ⟨_, rfl, by decide⟩

theorem witness_HandlesLiveFromStartToStop :
    (∃ t, exec (.startNormal false 0) { opened [good [], good []] with sessionGen := 0xFFFFFFFF } = .next t ∧
      t.sts = 0x00) ∧
    (∃ t, exec (.stop false) (live [bad]) = .next t) ∧
    (Consistent { live [bad] with coef := decodeCal (live []).calBuf } ∧
      ∃ t, exec (.closeCmd false) { live [bad] with coef := decodeCal (live []).calBuf } = .next t) := by
  refine ⟨⟨_, rfl, ?_⟩, ⟨_, rfl⟩, ⟨?_, ?_, ?_, ?_, ?_, ?_, ?_, ?_, ?_, ?_⟩, _, rfl⟩ <;> decide

/-- V-POLL-1: a device that never becomes ready, timeout 100, six reads. -/
theorem witness_UnreadyPollTimesOutOnSchedule :
    (opened (List.replicate 6 (good [0x04]))).isOpen = true ∧ (100 : BitVec 32) ≠ 0 ∧
    Reference.pollTotal 5 ≤ 100 ∧ 100 < Reference.pollTotal 6 ∧ unreadyFor 6 (opened (List.replicate 6 (good [0x04]))) := by
  refine ⟨by decide, by decide, by decide, by decide, ?_⟩
  unfold unreadyFor
  decide

theorem witness_UnboundedPollNeverEnds :
    (opened (List.replicate 3 (good [0x01]))).isOpen = true ∧ unreadyFor 3 (opened (List.replicate 3 (good [0x01]))) := by
  refine ⟨by decide, ?_⟩
  unfold unreadyFor
  decide

end Sys2Proof.Tests
end

section
/-! PROOFS of the family 10_state: the engine's operations as exact integers, as far as the guard of COMP_P needs them
(spec/00_scope.md R8, R9; 43_compensation.md R195, R196). -/

namespace Sys2Proof.Machine

/-! ## The operations of the engine, read through `toInt` -/

/-- `x >> k` is the floor of the exact quotient (R9). -/
theorem toInt_sar {w : Nat} (x : BitVec w) (k : Nat) : (sar x k).toInt = Reference.shr x.toInt k := by
  simp [sar, Reference.shr, BitVec.toInt_sshiftRight, Int.shiftRight_eq_div_pow]

/-- `x << k` is the exact product, wrapped (R9). -/
theorem toInt_shiftLeft_eq_bmod_mul {w : Nat} (x : BitVec w) (k : Nat) :
    (x <<< k).toInt = (x.toInt * 2 ^ k).bmod (2 ^ w) := by
  rw [BitVec.toInt_shiftLeft, Nat.shiftLeft_eq, BitVec.toInt_eq_toNat_bmod x, Int.bmod_mul_bmod]
  simp

/-- Sign extension keeps the value (R8). -/
theorem toInt_sext {w n : Nat} (h : w ≤ n) (v : BitVec w) : (sext n v).toInt = v.toInt :=
  BitVec.toInt_signExtend_of_le h

/-- Zero extension into a wider context gives the unsigned value (R8). -/
theorem toInt_zext {w n : Nat} (h : w < n) (v : BitVec w) : (zext n v).toInt = v.toNat := by
  have hlt : v.toNat * 2 < 2 ^ n :=
    calc v.toNat * 2 < 2 ^ w * 2 := by have := v.isLt; omega
      _ = 2 ^ (w + 1) := (pow_succ 2 w).symm
      _ ≤ 2 ^ n := Nat.pow_le_pow_right (by decide) h
  have hz : (zext n v).toNat = v.toNat := BitVec.toNat_setWidth_of_le h.le
  rw [BitVec.toInt_eq_toNat_of_lt (by omega), hz]

/-! ## The guarded term of COMP_P (R195, R196) -/

/-- The base of the pressure formulas, as an exact integer (R195). -/
theorem toInt_pressBase (tf : BitVec 32) : (pressBase tf).toInt = Reference.pressBase tf.toInt := by
  simp [pressBase, Reference.pressBase, Reference.wrap64, BitVec.toInt_sub, toInt_sext]

/-- The guarded term is that of the exact integers (R195). -/
theorem toInt_pressVar1 (c : Coeffs) (tf : BitVec 32) :
    (pressVar1 c tf).toInt = Reference.pressVar1 c tf.toInt := by
  simp [pressVar1, Reference.pressVar1, Reference.wrap64, toInt_sar, BitVec.toInt_add, BitVec.toInt_mul,
    toInt_shiftLeft_eq_bmod_mul, -BitVec.toInt_shiftLeft, toInt_sext, toInt_zext, toInt_pressBase]

/-- The guard of R196 in either arithmetic. -/
theorem pressVar1_eq_zero_iff (c : Coeffs) (tf : BitVec 32) :
    pressVar1 c tf = 0#64 ↔ Reference.pressVar1 c tf.toInt = 0 := by
  rw [← toInt_pressVar1, ← BitVec.toInt_inj, BitVec.toInt_zero]

end Sys2Proof.Machine
end

section
/-! PROOFS of the family 10_state: what each body leaves unchanged, and what it can do to the flags, read off its paths
(Laws/Paths.lean); the status word that ends a command. -/

namespace Sys2Proof.Machine

/-! ## Frames: the fields a body leaves unchanged, one lemma per body -/

/-- OPEN writes the calibration and the validity flags alone (R121). -/
@[simp] theorem openBody_frame (s : State) :
    (openBody s).raw = s.raw ∧ (openBody s).tFine = s.tFine ∧ (openBody s).mode = s.mode ∧ (openBody s).sb = s.sb ∧
    (openBody s).osrsT = s.osrsT ∧ (openBody s).osrsP = s.osrsP ∧ (openBody s).osrsH = s.osrsH ∧
    (openBody s).sessionActive = s.sessionActive ∧ (openBody s).sessionGen = s.sessionGen ∧
    (openBody s).pollD = s.pollD ∧ (openBody s).pollTotal = s.pollTotal ∧ (openBody s).pollReads = s.pollReads ∧
    (openBody s).port = s.port := by
  obtain h | h | h | h | h := openBody_cases s <;> simp [h, openFail]

/-- TRIGGER_FORCED writes `osrs_*` and `mode` alone (R142). -/
@[simp] theorem triggerForcedBody_frame (ot op oh : BitVec 3) (s : State) :
    (triggerForcedBody ot op oh s).calBuf = s.calBuf ∧ (triggerForcedBody ot op oh s).coef = s.coef ∧
    (triggerForcedBody ot op oh s).isOpen = s.isOpen ∧ (triggerForcedBody ot op oh s).raw = s.raw ∧
    (triggerForcedBody ot op oh s).rawValid = s.rawValid ∧ (triggerForcedBody ot op oh s).tFine = s.tFine ∧
    (triggerForcedBody ot op oh s).tfValid = s.tfValid ∧ (triggerForcedBody ot op oh s).sb = s.sb ∧
    (triggerForcedBody ot op oh s).sessionActive = s.sessionActive ∧
    (triggerForcedBody ot op oh s).sessionGen = s.sessionGen ∧ (triggerForcedBody ot op oh s).pollD = s.pollD ∧
    (triggerForcedBody ot op oh s).pollTotal = s.pollTotal ∧
    (triggerForcedBody ot op oh s).pollReads = s.pollReads ∧ (triggerForcedBody ot op oh s).port = s.port := by
  obtain h | h | h := triggerForcedBody_cases ot op oh s <;> simp [h]

/-- START_NORMAL writes `sb`, `mode` and the session alone (R144). -/
@[simp] theorem startNormalBody_frame (sb : BitVec 3) (s : State) :
    (startNormalBody sb s).calBuf = s.calBuf ∧ (startNormalBody sb s).coef = s.coef ∧
    (startNormalBody sb s).isOpen = s.isOpen ∧ (startNormalBody sb s).raw = s.raw ∧
    (startNormalBody sb s).rawValid = s.rawValid ∧ (startNormalBody sb s).tFine = s.tFine ∧
    (startNormalBody sb s).tfValid = s.tfValid ∧ (startNormalBody sb s).osrsT = s.osrsT ∧
    (startNormalBody sb s).osrsP = s.osrsP ∧ (startNormalBody sb s).osrsH = s.osrsH ∧
    (startNormalBody sb s).pollD = s.pollD ∧ (startNormalBody sb s).pollTotal = s.pollTotal ∧
    (startNormalBody sb s).pollReads = s.pollReads ∧ (startNormalBody sb s).port = s.port := by
  obtain h | h | h := startNormalBody_cases sb s <;> simp [h]

/-- STOP writes `mode` and `session_active` alone (R146). -/
@[simp] theorem stopBody_frame (s : State) :
    (stopBody s).calBuf = s.calBuf ∧ (stopBody s).coef = s.coef ∧ (stopBody s).isOpen = s.isOpen ∧
    (stopBody s).raw = s.raw ∧ (stopBody s).rawValid = s.rawValid ∧ (stopBody s).tFine = s.tFine ∧
    (stopBody s).tfValid = s.tfValid ∧ (stopBody s).sb = s.sb ∧ (stopBody s).osrsT = s.osrsT ∧
    (stopBody s).osrsP = s.osrsP ∧ (stopBody s).osrsH = s.osrsH ∧ (stopBody s).sessionGen = s.sessionGen ∧
    (stopBody s).pollD = s.pollD ∧ (stopBody s).pollTotal = s.pollTotal ∧ (stopBody s).pollReads = s.pollReads ∧
    (stopBody s).port = s.port := by
  obtain h | h | h := stopBody_cases s <;> simp [h]

/-- CLOSE writes the flags and `mode` alone (R148). -/
@[simp] theorem closeBody_frame (s : State) :
    (closeBody s).calBuf = s.calBuf ∧ (closeBody s).coef = s.coef ∧ (closeBody s).raw = s.raw ∧
    (closeBody s).tFine = s.tFine ∧ (closeBody s).sb = s.sb ∧ (closeBody s).osrsT = s.osrsT ∧
    (closeBody s).osrsP = s.osrsP ∧ (closeBody s).osrsH = s.osrsH ∧ (closeBody s).sessionGen = s.sessionGen ∧
    (closeBody s).pollD = s.pollD ∧ (closeBody s).pollTotal = s.pollTotal ∧
    (closeBody s).pollReads = s.pollReads ∧ (closeBody s).port = s.port := by
  obtain h | h | h := closeBody_cases s <;> simp [h]

/-- READ_RAW writes the sample and its validity alone (R181). -/
@[simp] theorem readRawBody_frame (s : State) :
    (readRawBody s).calBuf = s.calBuf ∧ (readRawBody s).coef = s.coef ∧ (readRawBody s).isOpen = s.isOpen ∧
    (readRawBody s).tFine = s.tFine ∧ (readRawBody s).mode = s.mode ∧ (readRawBody s).sb = s.sb ∧
    (readRawBody s).osrsT = s.osrsT ∧ (readRawBody s).osrsP = s.osrsP ∧ (readRawBody s).osrsH = s.osrsH ∧
    (readRawBody s).sessionActive = s.sessionActive ∧ (readRawBody s).sessionGen = s.sessionGen ∧
    (readRawBody s).pollD = s.pollD ∧ (readRawBody s).pollTotal = s.pollTotal ∧
    (readRawBody s).pollReads = s.pollReads ∧ (readRawBody s).port = s.port := by
  obtain h | h := readRawBody_cases s <;> simp [h]

/-- An unready pass writes the poll registers alone before it loops or ends (R150). -/
@[simp] theorem waited_frame (s : State) :
    (waited s).calBuf = s.calBuf ∧ (waited s).coef = s.coef ∧ (waited s).isOpen = s.isOpen ∧
    (waited s).raw = s.raw ∧ (waited s).rawValid = s.rawValid ∧ (waited s).tFine = s.tFine ∧
    (waited s).tfValid = s.tfValid ∧ (waited s).mode = s.mode ∧ (waited s).sb = s.sb ∧
    (waited s).osrsT = s.osrsT ∧ (waited s).osrsP = s.osrsP ∧ (waited s).osrsH = s.osrsH ∧
    (waited s).sessionActive = s.sessionActive ∧ (waited s).sessionGen = s.sessionGen ∧
    (waited s).phase = s.phase ∧ (waited s).sts = s.sts ∧ (waited s).res = s.res ∧ (waited s).port = s.port := by
  simp [waited]

/-- A pass of POLL writes its own registers, the sample with its validity, and `mode` alone (R150). -/
@[simp] theorem pollPass_frame (rd : Bool) (tmo : BitVec 32) (s : State) :
    (pollPass rd tmo s).calBuf = s.calBuf ∧ (pollPass rd tmo s).coef = s.coef ∧
    (pollPass rd tmo s).isOpen = s.isOpen ∧ (pollPass rd tmo s).tFine = s.tFine ∧ (pollPass rd tmo s).sb = s.sb ∧
    (pollPass rd tmo s).osrsT = s.osrsT ∧ (pollPass rd tmo s).osrsP = s.osrsP ∧
    (pollPass rd tmo s).osrsH = s.osrsH ∧ (pollPass rd tmo s).sessionActive = s.sessionActive ∧
    (pollPass rd tmo s).sessionGen = s.sessionGen ∧ (pollPass rd tmo s).port = s.port := by
  obtain ⟨-, h⟩ | ⟨-, -, ⟨rfl, h⟩ | ⟨rfl, -, h⟩ | ⟨rfl, -, h⟩⟩ | ⟨-, -, ⟨-, -, h⟩ | ⟨-, h⟩⟩ := pollPass_cases rd tmo s <;>
    simp [h]

/-! ## The flags -/

/-- OPEN invalidates the sample and `t_fine`, however it ends (R121). -/
@[simp] theorem openBody_clears_validity (s : State) :
    (openBody s).rawValid = false ∧ (openBody s).tfValid = false := by
  obtain h | h | h | h | h := openBody_cases s <;> simp [h, openFail]

/-- START_NORMAL leaves `session_active` or sets it (R144). -/
theorem startNormalBody_session_cases (sb : BitVec 3) (s : State) :
    (startNormalBody sb s).sessionActive = s.sessionActive ∨ (startNormalBody sb s).sessionActive = true := by
  obtain h | h | h := startNormalBody_cases sb s <;> simp [h]

/-- No session is live after STOP (R146). -/
@[simp] theorem stopBody_sessionActive (s : State) : (stopBody s).sessionActive = false := by
  obtain h | h | h := stopBody_cases s <;> simp [h]

/-- CLOSE leaves a block that is not open as it is, and clears the four flags of an open one (R148). -/
theorem closeBody_flags_cases (s : State) :
    (s.isOpen = false ∧ (closeBody s).isOpen = s.isOpen ∧ (closeBody s).rawValid = s.rawValid ∧
      (closeBody s).tfValid = s.tfValid ∧ (closeBody s).sessionActive = s.sessionActive) ∨
    (s.isOpen = true ∧ (closeBody s).isOpen = false ∧ (closeBody s).rawValid = false ∧
      (closeBody s).tfValid = false ∧ (closeBody s).sessionActive = false) := by
  obtain h | h | h := closeBody_cases s <;> simp [h]

/-- READ_RAW leaves the sample as it is, or takes one, and `t_fine` is stale (R181). -/
theorem readRawBody_sample_cases (s : State) :
    ((readRawBody s).raw = s.raw ∧ (readRawBody s).rawValid = s.rawValid ∧ (readRawBody s).tfValid = s.tfValid) ∨
    ((readRawBody s).rawValid = true ∧ (readRawBody s).tfValid = false) := by
  obtain h | h := readRawBody_cases s <;> simp [h]

/-- A pass of POLL leaves the sample as it is, or with RD = 1 takes one, and `t_fine` is stale (R150). -/
theorem pollPass_sample_cases (rd : Bool) (tmo : BitVec 32) (s : State) :
    ((pollPass rd tmo s).raw = s.raw ∧ (pollPass rd tmo s).rawValid = s.rawValid ∧
      (pollPass rd tmo s).tfValid = s.tfValid) ∨
    (rd = true ∧ (pollPass rd tmo s).rawValid = true ∧ (pollPass rd tmo s).tfValid = false) := by
  obtain ⟨-, h⟩ | ⟨-, -, ⟨rfl, h⟩ | ⟨rfl, -, h⟩ | ⟨rfl, -, h⟩⟩ | ⟨-, -, ⟨-, -, h⟩ | ⟨-, h⟩⟩ := pollPass_cases rd tmo s <;>
    simp [h]

/-! ## The status word at the end of a command (R37, R241) -/

/-- DEG is the third argument of `finish` (R37). -/
theorem stsWord_getLsbD_deg (code : OutcomeCode) (deg : Bool) : (stsWord code deg).getLsbD 4 = deg := by
  cases deg <;> simp

/-- STS is 0 exactly for the outcome OK without DEG (R230). -/
@[simp] theorem stsWord_false_eq_zero_iff (code : OutcomeCode) : stsWord code false = 0#8 ↔ code = .ok := by
  cases code <;> decide

/-- A pass of POLL that ends it leaves DEG 0 (R150, R241). -/
theorem pollPass_deg (rd : Bool) (tmo : BitVec 32) {s : State} (hi : (pollPass rd tmo s).phase = .idle) :
    (pollPass rd tmo s).sts.getLsbD 4 = false := by
  obtain ⟨-, h⟩ | ⟨-, -, ⟨rfl, h⟩ | ⟨rfl, -, h⟩ | ⟨rfl, -, h⟩⟩ | ⟨-, -, ⟨-, -, h⟩ | ⟨-, h⟩⟩ := pollPass_cases rd tmo s <;>
    simp_all

/-- A body that ends its command leaves DEG 1 exactly for a COMP_P with its guarded term 0 (R196, R241). -/
theorem bodyOf_deg_iff (i : Instr) {s : State} (hi : (bodyOf i s).phase = .idle) :
    (bodyOf i s).sts.getLsbD 4 = true ↔ (∃ cb, i = .compP cb) ∧ pressVar1 s.coef s.tFine = 0#64 := by
  cases i with
  | openCmd cb => obtain h | h | h | h | h := openBody_cases s <;> simp [bodyOf, h, openFail]
  | closeCmd cb => obtain h | h | h := closeBody_cases s <;> simp [bodyOf, h]
  | triggerForced cb ot op oh => obtain h | h | h := triggerForcedBody_cases ot op oh s <;> simp [bodyOf, h]
  | startNormal cb sb => obtain h | h | h := startNormalBody_cases sb s <;> simp [bodyOf, h]
  | stop cb => obtain h | h | h := stopBody_cases s <;> simp [bodyOf, h]
  | poll cb rd tmo =>
    have hd : (bodyOf (.poll cb rd tmo) s).sts.getLsbD 4 = false := pollPass_deg rd tmo hi
    simp only [hd, Bool.false_eq_true, reduceCtorEq, exists_false, false_and]
  | readRaw cb => obtain h | h := readRawBody_cases s <;> simp [bodyOf, h]
  | compT cb => simp [bodyOf, compTBody]
  | compP cb =>
    obtain ⟨hv, h⟩ | ⟨hv, h⟩ := compPBody_cases s
    · simpa [bodyOf, h] using hv
    · simpa [bodyOf, h] using hv
  | compH cb => simp [bodyOf, compHBody]

/-! ## Commands past their pre-checks (R231) -/

/-- STOP with CB = 0 passes its pre-checks in every state (R231). -/
theorem preCheck_stop (s : State) : preCheck (.stop false) s = none := rfl

/-- CLOSE with CB = 0 passes its pre-checks in every state (R231). -/
theorem preCheck_closeCmd (s : State) : preCheck (.closeCmd false) s = none := rfl

/-- COMP_P passes its pre-checks exactly when the block is open and `t_fine` is valid (R231). -/
theorem preCheck_compP_eq_none_iff (cb : Bool) (s : State) :
    preCheck (.compP cb) s = none ↔ s.isOpen = true ∧ s.tfValid = true := by
  simp [preCheck_eq_none_iff, isBusCommand, needsOpen, needsNoSession, needsSample, needsTfine]

/-- What a command that passes its pre-checks leaves. -/
theorem eq_body_of_exec {i : Instr} {s t : State} (hp : preCheck i s = none) (h : exec i s = .next t) :
    t = bodyOf i s := by
  rw [exec_of_pass hp] at h
  injection h with h
  exact h.symm

/-- What a step of a BUSY block leaves. -/
theorem eq_pollPass_of_step {s t : State} {rd : Bool} {tmo : BitVec 32} (hb : s.phase = .busy rd tmo)
    (h : step s = .next t) : t = pollPass rd tmo s := by
  rw [step_busy hb] at h
  injection h with h
  exact h.symm

/-- A command that ends with STS 0 passed its pre-checks (R231). -/
theorem exec_sts_zero {i : Instr} {s t : State} (h : exec i s = .next t) (ht : t.sts = 0x00#8) :
    preCheck i s = none ∧ t = bodyOf i s := by
  obtain ⟨code, hc, rfl⟩ | hb := exec_cases h
  · rw [finish_sts, stsWord_false_eq_zero_iff] at ht
    exact absurd (ht ▸ hc) (preCheck_ne_ok i s)
  · exact hb

end Sys2Proof.Machine
end

section
/-! PROOFS of the family 10_state: the block's registers and who writes them (R23 to R38). -/

namespace Sys2Proof.Machine

/-! ## The step and the registers (R23 to R36) -/

/-- Settles O5, by the equation of a step in IDLE. -/
theorem stepRunsTheDecodedCommand : Obligations.StepRunsTheDecodedCommand := by
  intro s w rest i hidle hport hdec
  simp [step, takeCommand, hidle, hport, hdec]

/-- Settles O6: a pass of POLL leaves the port alone. -/
theorem onlyAnIdleBlockTakesACommand : Obligations.OnlyAnIdleBlockTakesACommand :=
  ⟨fun s rd tmo hbusy => ⟨pollPass rd tmo s, step_busy hbusy, by simp⟩, fun _ => step_idle_empty⟩

/-- Settles O37: each register is in the frame of every body but its owner's. -/
theorem registersAreWrittenOnlyByTheirOwners : Obligations.RegistersAreWrittenOnlyByTheirOwners := by
  constructor
  · intro i s t h
    obtain ⟨code, -, rfl⟩ | ⟨-, rfl⟩ := exec_cases h
    · simp
    · cases i with
      | openCmd cb => simp [bodyOf]
      | closeCmd cb => simp [bodyOf]
      | triggerForced cb ot op oh => simp [bodyOf]
      | startNormal cb sb => simp [bodyOf]
      | stop cb => simp [bodyOf]
      | poll cb rd tmo =>
        obtain ⟨hraw, -, -⟩ | ⟨hrd, -, -⟩ := pollPass_sample_cases rd tmo (pollStart s)
        · simp [bodyOf, hraw]
        · simp [bodyOf, hrd]
      | readRaw cb => simp [bodyOf]
      | compT cb => simp [bodyOf, compTBody]
      | compP cb => simp [bodyOf, compPBody]
      | compH cb => simp [bodyOf, compHBody]
  · intro s t rd tmo hbusy h
    obtain rfl := eq_pollPass_of_step hbusy h
    obtain ⟨hraw, -, -⟩ | ⟨hrd, -, -⟩ := pollPass_sample_cases rd tmo s
    · simp [hraw]
    · simp [hrd]

/-! ## The flags (R38) -/

/-- A command that ends leaves DEG 1 exactly when it is a COMP_P past its pre-checks with `var1` 0 (R196, R241). -/
theorem exec_deg_iff {i : Instr} {s t : State} (h : exec i s = .next t) (hi : t.phase = .idle) :
    t.sts.getLsbD 4 = true ↔ (∃ cb, i = .compP cb) ∧ s.isOpen = true ∧ s.tfValid = true ∧
      Reference.pressVar1 s.coef s.tFine.toInt = 0 := by
  obtain ⟨code, hc, rfl⟩ | ⟨hc, rfl⟩ := exec_cases h
  · rw [finish_sts, stsWord_getLsbD_deg]
    refine iff_of_false Bool.false_ne_true ?_
    rintro ⟨⟨cb, rfl⟩, ho, htf, -⟩
    rw [(preCheck_compP_eq_none_iff cb s).2 ⟨ho, htf⟩] at hc
    cases hc
  · rw [bodyOf_deg_iff i hi, pressVar1_eq_zero_iff]
    refine and_congr_right ?_
    rintro ⟨cb, rfl⟩
    obtain ⟨ho, htf⟩ := (preCheck_compP_eq_none_iff cb s).1 hc
    simp [ho, htf]

/-- Settles O36: the flags are in the frame of every body but those listed, and each of these can do to them only what
R38 lists. -/
theorem flagsAreWrittenOnlyAsListed : Obligations.FlagsAreWrittenOnlyAsListed := by
  constructor
  · intro i s t h
    -- DEG is said of how a command ends; the other four flags are read off each body.
    refine (fun ⟨ho, hr, htf, hs⟩ => ⟨ho, hr, htf, hs, exec_deg_iff h⟩ : _ ∧ _ ∧ _ ∧ _ → _) ?_
    obtain ⟨code, -, rfl⟩ | ⟨-, rfl⟩ := exec_cases h
    · simp
    · cases i with
      | openCmd cb => simp [bodyOf]
      | closeCmd cb =>
        obtain ⟨-, ho, hr, htf, hs⟩ | ⟨-, ho, hr, htf, hs⟩ := closeBody_flags_cases s
        · simp [bodyOf, ho, hr, htf, hs]
        · simp [bodyOf, ho, hr, htf, hs]
      | triggerForced cb ot op oh => simp [bodyOf]
      | startNormal cb sb => obtain hs | hs := startNormalBody_session_cases sb s <;> simp [bodyOf, hs]
      | stop cb => simp [bodyOf]
      | poll cb rd tmo =>
        obtain ⟨-, hr, htf⟩ | ⟨rfl, hr, htf⟩ := pollPass_sample_cases rd tmo (pollStart s)
        · simp [bodyOf, hr, htf]
        · simp [bodyOf, hr, htf]
      | readRaw cb => obtain ⟨-, hr, htf⟩ | ⟨hr, htf⟩ := readRawBody_sample_cases s <;> simp [bodyOf, hr, htf]
      | compT cb => simp [bodyOf, compTBody]
      | compP cb => simp [bodyOf, compPBody]
      | compH cb => simp [bodyOf, compHBody]
  · intro s t rd tmo hbusy h
    obtain rfl := eq_pollPass_of_step hbusy h
    refine ⟨by simp, by simp, ?_, ?_, pollPass_deg rd tmo⟩
    all_goals
      obtain ⟨-, hr, htf⟩ | ⟨rfl, hr, htf⟩ := pollPass_sample_cases rd tmo s
      · simp [hr, htf]
      · simp [hr, htf]

/-! ## The calibration bytes (R23) -/

/-- An OPEN that ends with STS 0 has filled `cal_buf` from its two bursts (R121). -/
theorem openBody_calBuf_of_sts_zero {s : State} (h : (openBody s).sts = 0x00#8) :
    (openBody s).calBuf = calAfterX3 s := by
  obtain ⟨-, hb⟩ | ⟨-, -, hb⟩ | ⟨-, -, -, hb⟩ | ⟨-, -, -, -, hb⟩ | ⟨-, -, -, -, hb⟩ := openBody_cases s
  case inr.inr.inr.inr => simp [hb]
  all_goals simp [hb, openFail] at h

/-- The index of a register in `cal_buf` (R23): block 1 from 0, block 2 from 26. -/
theorem calIndex_eq_some_iff (a : Byte) (k : Nat) :
    calIndex a = some k ↔
      (0x88 ≤ a.toNat ∧ a.toNat ≤ 0xA1 ∧ k = a.toNat - 0x88) ∨
      (0xE1 ≤ a.toNat ∧ a.toNat ≤ 0xE7 ∧ k = a.toNat - 0xE1 + 26) := by
  unfold calIndex
  split_ifs
  · rw [Option.some.injEq]
    omega
  · rw [Option.some.injEq]
    omega
  · refine iff_of_false (by simp) ?_
    omega

/-- Settles O26: the register's index lies in the block its burst has filled. -/
theorem calBufHoldsEachRegisterAtItsIndex : Obligations.CalBufHoldsEachRegisterAtItsIndex := by
  intro s t h hsts a k hk
  obtain rfl : t = openBody s := (exec_sts_zero h hsts).2
  have hbuf := openBody_calBuf_of_sts_zero hsts
  obtain ⟨hlo, hhi, hk⟩ | ⟨hlo, hhi, hk⟩ := (calIndex_eq_some_iff a k).1 hk
  · have hlt : k < 26 := by omega
    exact ⟨by omega, by simp only [hbuf, calAfterX3, Vector.getElem_ofFn, if_pos hlt, if_pos hhi, ← hk]⟩
  · have hge : ¬ k < 26 := by omega
    have ha : ¬ a.toNat ≤ 0xA1 := by omega
    have hsub : k - 26 = a.toNat - 0xE1 := by omega
    exact ⟨by omega, by simp only [hbuf, calAfterX3, Vector.getElem_ofFn, if_neg hge, if_neg ha, hsub]⟩

/-! ## The session handle (R33) -/

/-- With no live session no handle is valid (R33). -/
theorem handleValid_of_no_session {s : State} (h : s.sessionActive = false) (g : BitVec 32) :
    handleValid s g = false := by
  simp [handleValid, h]

/-- While a session is live the one valid handle is its number (R33). -/
theorem handleValid_of_session {s : State} (h : s.sessionActive = true) (g : BitVec 32) :
    handleValid s g = true ↔ s.sessionGen = g := by
  simp [handleValid, h]

/-- A START_NORMAL that ends with STS 0 makes a session live and returns its number (R144). -/
theorem startNormalBody_of_sts_zero {sb : BitVec 3} {s : State} (h : (startNormalBody sb s).sts = 0x00#8) :
    (startNormalBody sb s).sessionActive = true ∧ (startNormalBody sb s).sessionGen = (startNormalBody sb s).res := by
  obtain ⟨-, hb⟩ | ⟨-, -, hb⟩ | ⟨-, -, hb⟩ := startNormalBody_cases sb s
  · simp [hb] at h
  · simp [hb] at h
  · simp [hb]

/-- No session is live after a CLOSE in a state that meets the invariant: one that is not open has none (R34, R148). -/
theorem closeBody_sessionActive {s : State} (hs : s.sessionActive = true → s.isOpen = true) :
    (closeBody s).sessionActive = false := by
  obtain ⟨ho, -, -, -, h⟩ | ⟨-, -, -, -, h⟩ := closeBody_flags_cases s
  · simpa [h, ho] using hs
  · exact h

/-- Settles O40: START_NORMAL's result is the number of the session it makes live, and no session is live after STOP or
CLOSE. -/
theorem handlesLiveFromStartToStop : Obligations.HandlesLiveFromStartToStop := by
  refine ⟨?_, ?_, ?_⟩
  · intro s t sb h hsts g
    obtain rfl : t = startNormalBody sb s := (exec_sts_zero h hsts).2
    obtain ⟨hlive, hgen⟩ := startNormalBody_of_sts_zero hsts
    rw [handleValid_of_session hlive, hgen, eq_comm]
  · intro s t h g
    obtain rfl : t = stopBody s := eq_body_of_exec (preCheck_stop s) h
    exact handleValid_of_no_session (stopBody_sessionActive s) g
  · intro s t hc h g
    obtain rfl : t = closeBody s := eq_body_of_exec (preCheck_closeCmd s) h
    exact handleValid_of_no_session (closeBody_sessionActive fun hs => (hc.session hs).2) g

end Sys2Proof.Machine
end

section
/-! PROOFS of the family 10_state: the invariant (R25 to R37). `Coherent` is the part of `Consistent` about the registers
a body writes before it ends; it has one rule per named update. `finish` then gives the rest of `Consistent` back. -/

namespace Sys2Proof.Machine

/-- The clauses of `Consistent` that do not speak of the phase or the outputs. -/
structure Coherent (s : State) : Prop where
  modeLegal : s.mode ≠ 2
  coefDecoded : s.isOpen = true → s.coef = decodeCal s.calBuf
  rawOpen : s.rawValid = true → s.isOpen = true
  tfRaw : s.tfValid = true → s.rawValid = true
  tfFresh : s.tfValid = true → s.tFine = (compTemp s.raw.adcT s.coef.t1 s.coef.t2 s.coef.t3).tFine
  session : s.sessionActive = true → s.mode = 3 ∧ s.isOpen = true

/-- The fields that `Coherent` speaks of. -/
def coherentFields (s : State) : Vector Byte 33 × Coeffs × Bool × Raw × Bool × BitVec 32 × Bool × BitVec 2 × Bool :=
  (s.calBuf, s.coef, s.isOpen, s.raw, s.rawValid, s.tFine, s.tfValid, s.mode, s.sessionActive)

theorem Consistent.coherent {s : State} (h : Consistent s) : Coherent s :=
  ⟨h.modeLegal, h.coefDecoded, h.rawOpen, h.tfRaw, h.tfFresh, h.session⟩

/-! ## One rule per update -/

namespace Coherent

/-- An update that leaves these fields alone keeps the clauses. -/
theorem of_fields_eq {s t : State} (h : Coherent s) (e : coherentFields t = coherentFields s) : Coherent t := by
  simp only [coherentFields, Prod.mk.injEq] at e
  obtain ⟨hcal, hcoef, hopen, hraw, hrawValid, htFine, htfValid, hmode, hsession⟩ := e
  obtain ⟨h1, h2, h3, h4, h5, h6⟩ := h
  constructor <;> simp only [hcal, hcoef, hopen, hraw, hrawValid, htFine, htfValid, hmode, hsession] <;> assumption

variable {s : State}

theorem drawn (e : Event) (h : Coherent s) : Coherent (drawn e s) := h.of_fields_eq rfl
theorem emit (e : Event) (h : Coherent s) : Coherent (emit e s) := h.of_fields_eq rfl
theorem setOsrsH (oh : BitVec 3) (h : Coherent s) : Coherent (setOsrsH oh s) := h.of_fields_eq rfl
theorem setOsrsTP (ot op : BitVec 3) (h : Coherent s) : Coherent (setOsrsTP ot op s) := h.of_fields_eq rfl
theorem setSb (sb : BitVec 3) (h : Coherent s) : Coherent (setSb sb s) := h.of_fields_eq rfl
theorem countRead (h : Coherent s) : Coherent (countRead s) := h.of_fields_eq rfl
theorem addDelay (h : Coherent s) : Coherent (addDelay s) := h.of_fields_eq rfl
theorem loopAgain (rd : Bool) (tmo : BitVec 32) (h : Coherent s) : Coherent (loopAgain rd tmo s) := h.of_fields_eq rfl
theorem pollStart (h : Coherent s) : Coherent (pollStart s) := h.of_fields_eq rfl

/-- An unready status read and its delay (R150). -/
theorem waited (h : Coherent s) : Coherent (waited s) := by
  unfold Machine.waited
  exact ((h.drawn _).countRead.emit _).addDelay

/-- The validity flags may be cleared while no session is live, whatever `cal_buf` holds (R121, R148). -/
theorem clearValidity (hm : s.mode ≠ 2) (hs : s.sessionActive = false) : Coherent (clearValidity s) := by
  constructor
  case modeLegal => exact hm
  all_goals simp [hs]

/-- The coefficients are loaded while no session is live (R121). -/
theorem loadCoeffs (hm : s.mode ≠ 2) (hs : s.sessionActive = false) : Coherent (loadCoeffs s) := by
  constructor
  case modeLegal => exact hm
  all_goals simp [hs]

/-- `mode` may move while no session is live (R30, R34). -/
theorem setMode {m : BitVec 2} (h : Coherent s) (hm : m ≠ 2) (hs : s.sessionActive = true → m = 3) :
    Coherent (setMode m s) :=
  ⟨hm, h.coefDecoded, h.rawOpen, h.tfRaw, h.tfFresh, fun hl => ⟨hs hl, (h.session hl).2⟩⟩

/-- POLL's end of a forced measurement: with a live session `mode` is 3 and stays (R150, R34). -/
theorem measurementDone (h : Coherent s) : Coherent (measurementDone s) := by
  rw [measurementDone_eq]
  split_ifs with hm
  · refine h.setMode (by decide) fun hl => ?_
    rw [(h.session hl).1] at hm
    exact absurd hm (by decide)
  · exact h.setMode h.modeLegal fun hl => (h.session hl).1

/-- A session starts in Normal mode and open (R144). -/
theorem startSession (h : Coherent s) (hm : s.mode = 3) (ho : s.isOpen = true) : Coherent (startSession s) :=
  ⟨h.modeLegal, h.coefDecoded, h.rawOpen, h.tfRaw, h.tfFresh, fun _ => ⟨hm, ho⟩⟩

/-- A session ends (R146, R148). -/
theorem endSession (h : Coherent s) : Coherent (endSession s) :=
  ⟨h.modeLegal, h.coefDecoded, h.rawOpen, h.tfRaw, h.tfFresh, fun hl => Bool.noConfusion hl⟩

/-- A sample is taken while open, and makes `t_fine` stale (R150, R181). -/
theorem takeSample (b : Vector Byte Config.lenData) (h : Coherent s) (ho : s.isOpen = true) :
    Coherent (takeSample b s) :=
  ⟨h.modeLegal, h.coefDecoded, fun _ => ho, fun ht => Bool.noConfusion ht, fun ht => Bool.noConfusion ht, h.session⟩

/-- `t_fine` is set to that of the sample (R193). -/
theorem setTFine {tf : BitVec 32} (h : Coherent s) (hr : s.rawValid = true)
    (htf : tf = (compTemp s.raw.adcT s.coef.t1 s.coef.t2 s.coef.t3).tFine) : Coherent (setTFine tf s) :=
  ⟨h.modeLegal, h.coefDecoded, h.rawOpen, fun _ => hr, fun _ => htf, h.session⟩

end Coherent

/-! ## The ends of a command and of a pass -/

theorem stsWord_high (code : OutcomeCode) (deg : Bool) : (stsWord code deg).extractLsb' 5 3 = 0 := by
  revert deg
  cases code <;> decide

theorem stsWord_code_le (code : OutcomeCode) (deg : Bool) : ((stsWord code deg).extractLsb' 0 4).toNat ≤ 9 := by
  revert deg
  cases code <;> decide

/-- A command that ends from coherent registers meets the invariant (R37, R230), when DEG goes with OK and the result 0
(R241). -/
theorem Coherent.finish {s : State} (h : Coherent s) {code : OutcomeCode} {res : Word32} {deg : Bool}
    (hd : deg = true → code = .ok ∧ res = 0 := by simp) : Consistent (finish code res deg s) where
  modeLegal := h.modeLegal
  coefDecoded := h.coefDecoded
  rawOpen := h.rawOpen
  tfRaw := h.tfRaw
  tfFresh := h.tfFresh
  session := h.session
  busyOpen hp := absurd rfl hp
  stsHigh := stsWord_high code deg
  stsCode := stsWord_code_le code deg
  stsDeg hb := by
    obtain rfl : deg = true := (stsWord_getLsbD_deg code deg).symm.trans hb
    obtain ⟨rfl, rfl⟩ := hd rfl
    exact ⟨rfl, rfl⟩

/-- Coherent registers beside the outputs of a state that meets the invariant. -/
theorem Consistent.of_coherent {s t : State} (h : Consistent s) (hc : Coherent t)
    (hb : t.phase ≠ .idle → t.isOpen = true) (hsts : t.sts = s.sts) (hres : t.res = s.res) : Consistent t where
  modeLegal := hc.modeLegal
  coefDecoded := hc.coefDecoded
  rawOpen := hc.rawOpen
  tfRaw := hc.tfRaw
  tfFresh := hc.tfFresh
  session := hc.session
  busyOpen := hb
  stsHigh := hsts ▸ h.stsHigh
  stsCode := hsts ▸ h.stsCode
  stsDeg := hsts ▸ hres ▸ h.stsDeg

/-- The port is outside the invariant. -/
theorem Consistent.withPort {s : State} (h : Consistent s) (rest : List CommandWord) :
    Consistent { s with port := rest } :=
  h.of_coherent (h.coherent.of_fields_eq rfl) h.busyOpen rfl rfl

/-- So are the poll registers. -/
theorem Consistent.pollStart {s : State} (h : Consistent s) : Consistent (pollStart s) :=
  h.of_coherent h.coherent.pollStart h.busyOpen rfl rfl

/-- A pass that loops leaves the outputs and the registers of an open block (R150). -/
theorem Consistent.loopAgain_waited {s : State} (h : Consistent s) (ho : s.isOpen = true) (rd : Bool)
    (tmo : BitVec 32) : Consistent (loopAgain rd tmo (waited s)) :=
  h.of_coherent (h.coherent.waited.loopAgain rd tmo) (fun _ => by simpa using ho) (by simp) (by simp)

/-! ## The bodies keep the invariant -/

/-- OPEN with no live session (R121, R231). -/
theorem openBody_consistent {s : State} (h : Consistent s) (hs : s.sessionActive = false) : Consistent (openBody s) := by
  obtain ⟨-, hb⟩ | ⟨-, -, hb⟩ | ⟨-, -, -, hb⟩ | ⟨-, -, -, -, hb⟩ | ⟨-, -, -, -, hb⟩ := openBody_cases s
  case inr.inr.inr.inr =>
    rw [hb]
    exact Coherent.finish (Coherent.loadCoeffs (by simpa using h.modeLegal) (by simpa using hs))
  all_goals
    rw [hb, openFail]
    exact Coherent.finish (Coherent.clearValidity (by simpa using h.modeLegal) (by simpa using hs))

/-- CLOSE (R148): where it is not a no-op the session is released first. -/
theorem closeBody_consistent {s : State} (h : Consistent s) : Consistent (closeBody s) := by
  obtain ⟨-, hb⟩ | ⟨-, -, hb⟩ | ⟨-, -, hb⟩ := closeBody_cases s
  · rw [hb]
    exact h.coherent.finish
  · rw [hb]
    refine Coherent.finish (Coherent.setMode (Coherent.clearValidity ?_ ?_) (by decide) (by simp))
    · simpa using h.modeLegal
    · simp
  · rw [hb]
    refine Coherent.finish (Coherent.clearValidity ?_ ?_)
    · simpa using h.modeLegal
    · simp

/-- TRIGGER_FORCED with no live session (R142, R231). -/
theorem triggerForcedBody_consistent (ot op oh : BitVec 3) {s : State} (h : Consistent s)
    (hs : s.sessionActive = false) : Consistent (triggerForcedBody ot op oh s) := by
  have hc := h.coherent
  obtain ⟨-, hb⟩ | ⟨-, -, hb⟩ | ⟨-, -, hb⟩ := triggerForcedBody_cases ot op oh s
  · rw [hb]
    exact (hc.drawn _).finish
  · rw [hb]
    exact (((hc.drawn _).setOsrsH _).drawn _).finish
  · rw [hb]
    exact (((((hc.drawn _).setOsrsH _).drawn _).setOsrsTP _ _).setMode (by decide) (by simp [hs])).finish

/-- START_NORMAL while open (R144, R231). -/
theorem startNormalBody_consistent (sb : BitVec 3) {s : State} (h : Consistent s) (ho : s.isOpen = true) :
    Consistent (startNormalBody sb s) := by
  have hc := h.coherent
  obtain ⟨-, hb⟩ | ⟨-, -, hb⟩ | ⟨-, -, hb⟩ := startNormalBody_cases sb s
  · rw [hb]
    exact (hc.drawn _).finish
  · rw [hb]
    exact (((hc.drawn _).setSb _).drawn _).finish
  · rw [hb]
    have hn := (((hc.drawn (.write 0xF5 (configByte sb) true)).setSb sb).drawn
      (.write 0xF4 (ctrlMeas s modeNormal) true)).setMode (m := modeNormal) (by decide) fun _ => rfl
    exact ((hn.emit _).startSession (by simp [modeNormal]) (by simpa using ho)).finish

/-- STOP (R146). -/
theorem stopBody_consistent {s : State} (h : Consistent s) : Consistent (stopBody s) := by
  have hc := h.coherent
  obtain ⟨-, hb⟩ | ⟨-, -, hb⟩ | ⟨-, -, hb⟩ := stopBody_cases s
  · rw [hb]
    exact hc.finish
  · rw [hb]
    exact ((((hc.drawn _).emit _).endSession).setMode (by decide) (by simp)).finish
  · rw [hb]
    exact ((hc.drawn _).emit _).endSession.finish

/-- One pass of POLL while open (R150). -/
theorem pollPass_consistent (rd : Bool) (tmo : BitVec 32) {s : State} (h : Consistent s) (ho : s.isOpen = true) :
    Consistent (pollPass rd tmo s) := by
  have hc := h.coherent
  obtain ⟨-, hb⟩ | ⟨-, -, ⟨-, hb⟩ | ⟨-, -, hb⟩ | ⟨-, -, hb⟩⟩ | ⟨-, -, ⟨-, -, hb⟩ | ⟨-, hb⟩⟩ :=
    pollPass_cases rd tmo s
  · rw [hb]
    exact (hc.drawn _).countRead.finish
  · rw [hb]
    exact (hc.drawn _).countRead.measurementDone.finish
  · rw [hb]
    exact ((hc.drawn _).countRead.measurementDone.drawn _).finish
  · rw [hb]
    exact (((hc.drawn _).countRead.measurementDone.drawn _).takeSample _ ho).finish
  · rw [hb]
    exact hc.waited.finish
  · rw [hb]
    exact h.loopAgain_waited ho rd tmo

/-- READ_RAW while open (R181, R231). -/
theorem readRawBody_consistent {s : State} (h : Consistent s) (ho : s.isOpen = true) : Consistent (readRawBody s) := by
  obtain ⟨-, hb⟩ | ⟨-, hb⟩ := readRawBody_cases s
  · rw [hb]
    exact (h.coherent.drawn _).finish
  · rw [hb]
    exact ((h.coherent.drawn _).takeSample _ ho).finish

/-- COMP_T with a valid sample (R193, R231). -/
theorem compTBody_consistent {s : State} (h : Consistent s) (hr : s.rawValid = true) : Consistent (compTBody s) :=
  (h.coherent.setTFine hr rfl).finish

/-- COMP_P: DEG only in the degenerate case, with result 0 (R198, R241). -/
theorem compPBody_consistent {s : State} (h : Consistent s) : Consistent (compPBody s) := by
  obtain ⟨-, hb⟩ | ⟨-, hb⟩ := compPBody_cases s
  · rw [hb]
    exact h.coherent.finish fun _ => ⟨rfl, rfl⟩
  · rw [hb]
    exact h.coherent.finish

/-- COMP_H (R203). -/
theorem compHBody_consistent {s : State} (h : Consistent s) : Consistent (compHBody s) := h.coherent.finish

/-- Every body keeps the invariant, once its pre-checks pass. -/
theorem bodyOf_consistent {i : Instr} {s : State} (h : Consistent s) (hp : preCheck i s = none) :
    Consistent (bodyOf i s) := by
  obtain ⟨-, hopen, hsession, hsample, -⟩ := (preCheck_eq_none_iff i s).1 hp
  cases i with
  | openCmd cb => exact openBody_consistent h (hsession rfl)
  | closeCmd cb => exact closeBody_consistent h
  | triggerForced cb ot op oh => exact triggerForcedBody_consistent ot op oh h (hsession rfl)
  | startNormal cb sb => exact startNormalBody_consistent sb h (hopen rfl)
  | stop cb => exact stopBody_consistent h
  | poll cb rd tmo => exact pollPass_consistent rd tmo h.pollStart (hopen rfl)
  | readRaw cb => exact readRawBody_consistent h (hopen rfl)
  | compT cb => exact compTBody_consistent h (hsample rfl)
  | compP cb => exact compPBody_consistent h
  | compH cb => exact compHBody_consistent h

/-- Every command keeps the invariant. -/
theorem exec_consistent {i : Instr} {s t : State} (h : Consistent s) (he : exec i s = .next t) : Consistent t := by
  obtain ⟨code, -, rfl⟩ | ⟨hp, rfl⟩ := exec_cases he
  · exact h.coherent.finish
  · exact bodyOf_consistent h hp

/-- Settles O10: a step is a pass of the running POLL, an idle step, an ILLEGAL word or a command. -/
theorem stepKeepsTheInvariant : Obligations.StepKeepsTheInvariant := by
  intro s t h hstep
  obtain ⟨rd, tmo, hbusy, rfl⟩ | ⟨-, -, rfl⟩ | ⟨w, rest, -, -, -, rfl⟩ | ⟨w, rest, i, -, -, -, he⟩ := step_cases hstep
  · exact pollPass_consistent rd tmo h (h.busyOpen (by simp [hbusy]))
  · exact h
  · exact (h.withPort rest).coherent.finish
  · exact exec_consistent (h.withPort rest) he

end Sys2Proof.Machine
end

section
/-! PROOFS of the family 20_memory: what each body adds to the trace (spec/20_memory.md R61, R71), read off its paths
(Laws/Paths.lean). -/

namespace Sys2Proof.Machine

/-! ## What the trace gains -/

/-- The trace of `t` is that of `s` with events added, each of them one that `P` admits (R39, R71). -/
def AddsOnly (P : Event → Prop) (s t : State) : Prop := ∃ evs, t.trace = s.trace ++ evs ∧ ∀ e ∈ evs, P e

namespace AddsOnly

variable {P Q : Event → Prop} {s t : State}

/-- A state whose trace is unchanged has gained nothing. -/
theorem of_trace_eq (h : t.trace = s.trace) : AddsOnly P s t := ⟨[], by simp [h], by simp⟩

theorem imp (h : AddsOnly P s t) (hPQ : ∀ e, P e → Q e) : AddsOnly Q s t := by
  obtain ⟨evs, ht, hevs⟩ := h
  exact ⟨evs, ht, fun e he => hPQ e (hevs e he)⟩

end AddsOnly

/-- Every event a command may issue is one of X1 to X8 or no transaction (R61). -/
theorem mayIssue_transaction {i : Instr} {e : Event} (h : mayIssue i e) : eventPayload e = none ∨ Transaction e := by
  cases i with
  | openCmd cb =>
    obtain ⟨ok, bs, rfl⟩ | ⟨ok, bs, rfl⟩ | ⟨ok, bs, rfl⟩ := h
    · exact .inr (.x1 ok bs)
    · exact .inr (.x2 ok bs)
    · exact .inr (.x3 ok bs)
  | closeCmd cb =>
    obtain ⟨v, ok, rfl⟩ | rfl := h
    · exact .inr (.x5 v ok)
    · exact .inl rfl
  | triggerForced cb ot op oh =>
    obtain ⟨v, ok, rfl⟩ | ⟨v, ok, rfl⟩ := h
    · exact .inr (.x4 v ok)
    · exact .inr (.x5 v ok)
  | startNormal cb sb =>
    obtain ⟨v, ok, rfl⟩ | ⟨v, ok, rfl⟩ | rfl := h
    · exact .inr (.x6 v ok)
    · exact .inr (.x5 v ok)
    · exact .inl rfl
  | stop cb =>
    obtain ⟨v, ok, rfl⟩ | rfl := h
    · exact .inr (.x5 v ok)
    · exact .inl rfl
  | poll cb rd tmo =>
    obtain ⟨ok, bs, rfl⟩ | ⟨-, ok, bs, rfl⟩ | ⟨d, rfl⟩ := h
    · exact .inr (.x7 ok bs)
    · exact .inr (.x8 ok bs)
    · exact .inl rfl
  | readRaw cb =>
    obtain ⟨ok, bs, rfl⟩ := h
    exact .inr (.x8 ok bs)
  | compT cb => exact h.elim
  | compP cb => exact h.elim
  | compH cb => exact h.elim

/-! ## The events of each body -/

/-- OPEN issues X1, X2 and X3, as far as it gets (R121). -/
theorem openBody_addsOnly (cb : Bool) (s : State) : AddsOnly (mayIssue (.openCmd cb)) s (openBody s) := by
  obtain h | h | h | h | h := openBody_cases s <;> simp [AddsOnly, mayIssue, h, openFail]

/-- TRIGGER_FORCED issues X4, then X5 (R142). -/
theorem triggerForcedBody_addsOnly (cb : Bool) (ot op oh : BitVec 3) (s : State) :
    AddsOnly (mayIssue (.triggerForced cb ot op oh)) s (triggerForcedBody ot op oh s) := by
  obtain h | h | h := triggerForcedBody_cases ot op oh s <;> simp [AddsOnly, mayIssue, h]

/-- START_NORMAL issues X6, then X5, then creates the session it was asked for (R144). -/
theorem startNormalBody_addsOnly (cb : Bool) (sb : BitVec 3) (s : State) :
    AddsOnly (mayIssue (.startNormal cb sb)) s (startNormalBody sb s) := by
  obtain h | h | h := startNormalBody_cases sb s <;> simp [AddsOnly, mayIssue, h]

/-- STOP issues nothing, or X5 and the release (R146). -/
theorem stopBody_addsOnly (cb : Bool) (s : State) : AddsOnly (mayIssue (.stop cb)) s (stopBody s) := by
  obtain h | h | h := stopBody_cases s <;> simp [AddsOnly, mayIssue, h]

/-- CLOSE issues nothing, or X5, and the release when a session is live (R148). -/
theorem closeBody_addsOnly (cb : Bool) (s : State) : AddsOnly (mayIssue (.closeCmd cb)) s (closeBody s) := by
  obtain h | h | h := closeBody_cases s <;> cases hs : s.sessionActive <;> simp [AddsOnly, mayIssue, h, hs]

/-- READ_RAW issues X8 (R181). -/
theorem readRawBody_addsOnly (cb : Bool) (s : State) : AddsOnly (mayIssue (.readRaw cb)) s (readRawBody s) := by
  obtain h | h := readRawBody_cases s <;> simp [AddsOnly, mayIssue, h]

/-- What an unready status read and its delay leave in the trace (R150). -/
@[simp] theorem waited_trace (s : State) :
    (waited s).trace = s.trace ++ [.read 0xF3 1 true [byteAt s 0 0], .delay s.pollD] := by
  simp [waited]

/-- A pass of POLL issues X7, then X8 when the device is ready and RD = 1, or a delay when it is not ready (R150). -/
theorem pollPass_addsOnly (cb rd : Bool) (tmo : BitVec 32) (s : State) :
    AddsOnly (mayIssue (.poll cb rd tmo)) s (pollPass rd tmo s) := by
  obtain ⟨-, h⟩ | ⟨-, -, ⟨rfl, h⟩ | ⟨rfl, -, h⟩ | ⟨rfl, -, h⟩⟩ | ⟨-, -, ⟨-, -, h⟩ | ⟨-, h⟩⟩ := pollPass_cases rd tmo s <;>
    simp [AddsOnly, mayIssue, h]

/-! ## The events of a command and of a step -/

/-- A body adds to the trace only what its command may issue (R61). -/
theorem bodyOf_addsOnly (i : Instr) (s : State) : AddsOnly (mayIssue i) s (bodyOf i s) := by
  cases i with
  | openCmd cb => exact openBody_addsOnly cb s
  | closeCmd cb => exact closeBody_addsOnly cb s
  | triggerForced cb ot op oh => exact triggerForcedBody_addsOnly cb ot op oh s
  | startNormal cb sb => exact startNormalBody_addsOnly cb sb s
  | stop cb => exact stopBody_addsOnly cb s
  | poll cb rd tmo => exact pollPass_addsOnly cb rd tmo (pollStart s)
  | readRaw cb => exact readRawBody_addsOnly cb s
  | compT cb => exact .of_trace_eq rfl
  | compP cb => exact .of_trace_eq rfl
  | compH cb => exact .of_trace_eq rfl

/-- A command adds to the trace only what it may issue; one that a pre-check refuses adds nothing (R61, R231). -/
theorem exec_addsOnly {i : Instr} {s t : State} (h : exec i s = .next t) : AddsOnly (mayIssue i) s t := by
  obtain ⟨code, -, rfl⟩ | ⟨-, rfl⟩ := exec_cases h
  · exact .of_trace_eq rfl
  · exact bodyOf_addsOnly i s

/-- A step adds to the trace no transaction but X1 to X8 (R61). -/
theorem step_addsOnly {s t : State} (h : step s = .next t) :
    AddsOnly (fun e => eventPayload e = none ∨ Transaction e) s t := by
  obtain ⟨rd, tmo, -, rfl⟩ | ⟨-, -, rfl⟩ | ⟨w, rest, -, -, -, rfl⟩ | ⟨w, rest, i, -, -, -, he⟩ := step_cases h
  · exact (pollPass_addsOnly false rd tmo s).imp fun _ => mayIssue_transaction
  · exact .of_trace_eq rfl
  · exact .of_trace_eq rfl
  · -- Taking the word from the port leaves the trace as it is.
    have hexec : AddsOnly (mayIssue i) s t := exec_addsOnly (s := { s with port := rest }) he
    exact hexec.imp fun _ => mayIssue_transaction

/-- Settles O34: every event of a body is in its command's row of R61, and every row lists X1 to X8 and events that are
no transaction. -/
theorem onlyTheListedTransactionsAreIssued : Obligations.OnlyTheListedTransactionsAreIssued := by
  refine ⟨fun _ _ => step_addsOnly, fun _ _ _ => exec_addsOnly, ?_⟩
  intro s t rd tmo hbusy h
  obtain rfl := eq_pollPass_of_step hbusy h
  exact pollPass_addsOnly false rd tmo s

end Sys2Proof.Machine
end

section
/-! PROOFS of the family 30_encoding: a command word and its fields determine each other (spec/30_encoding.md R80,
R102). -/

namespace Sys2Proof

/-! ## A field in its place -/

/-- A field with its lowest bit at bit `k` of an otherwise empty word. -/
def placeAt {n : Nat} (k : Nat) (x : BitVec n) : CommandWord := x.setWidth 64 <<< k

/-- A field reads back from where it was placed. -/
theorem extractLsb'_placeAt_same {n : Nat} (k : Nat) (x : BitVec n) (h : k + n ≤ 64) :
    (placeAt k x).extractLsb' k n = x := by
  ext i hi
  have hlt : k + i < 64 := by omega
  simp [placeAt, hlt, hi]

/-- A placed field leaves 0 in every range that does not meet it. -/
theorem extractLsb'_placeAt_disjoint {n : Nat} (k start len : Nat) (x : BitVec n)
    (h : start + len ≤ k ∨ k + n ≤ start) : (placeAt k x).extractLsb' start len = 0#len := by
  ext i hi
  rcases h with h | h
  · have hlt : start + i < k := by omega
    simp [placeAt, hlt]
  · have hx : x.getLsbD (start + i - k) = false := x.getLsbD_of_ge _ (by omega)
    simp [placeAt, hx]

/-- A range of a word, put back where it was read, holds the bits of the word in that range and 0 elsewhere. -/
theorem getElem_placeAt_extractLsb' (w : CommandWord) (k n : Nat) {i : Nat} (hi : i < 64) :
    (placeAt k (w.extractLsb' k n))[i] = (w[i] && decide (k ≤ i ∧ i < k + n)) := by
  by_cases hk : k ≤ i
  · have hik : k + (i - k) = i := by omega
    have hn : i - k < n ↔ i < k + n := by omega
    simp [placeAt, hik, hk, hn, BitVec.getLsbD_eq_getElem hi, Bool.and_comm]
  · have hlt : i < k := by omega
    simp [placeAt, hk, hlt]

/-- A bit of a word is its range of one bit. -/
theorem ofBool_getLsbD (w : CommandWord) (k : Nat) : BitVec.ofBool (w.getLsbD k) = w.extractLsb' k 1 := by
  ext i hi
  obtain rfl : i = 0 := by omega
  simp

namespace Fields

/-! ## The word of fields and the fields of a word -/

/-- The word of some fields holds each field in its place (R80). -/
theorem word_eq_placeAt (f : Fields) : f.word =
    placeAt 0 f.opc ||| placeAt 4 (.ofBool f.cb) ||| placeAt 5 (.ofBool f.rd) ||| placeAt 6 f.rsvLow |||
      placeAt 8 f.ot ||| placeAt 11 f.op ||| placeAt 14 f.oh ||| placeAt 17 f.sb ||| placeAt 20 f.rsvHigh |||
      placeAt 32 f.tmo := by
  simp only [word, placeAt, BitVec.shiftLeft_zero]

/-- A word has the fields of `f` exactly when each range of R80 holds that field; CB and RD as ranges of one bit. -/
theorem ofWord_eq_iff (w : CommandWord) (f : Fields) : ofWord w = f ↔
    w.extractLsb' 0 4 = f.opc ∧ w.extractLsb' 4 1 = .ofBool f.cb ∧ w.extractLsb' 5 1 = .ofBool f.rd ∧
      w.extractLsb' 6 2 = f.rsvLow ∧ w.extractLsb' 8 3 = f.ot ∧ w.extractLsb' 11 3 = f.op ∧
      w.extractLsb' 14 3 = f.oh ∧ w.extractLsb' 17 3 = f.sb ∧ w.extractLsb' 20 12 = f.rsvHigh ∧
      w.extractLsb' 32 32 = f.tmo := by
  cases f
  simp only [ofWord, mk.injEq, ← ofBool_getLsbD, BitVec.ofBool_eq_iff_eq]

/-- The fields of the word of some fields are those fields (R80, R102). -/
@[simp] theorem ofWord_word (f : Fields) : ofWord f.word = f := by
  simp [ofWord_eq_iff, word_eq_placeAt, BitVec.extractLsb'_or, extractLsb'_placeAt_disjoint, extractLsb'_placeAt_same]

/-- The word of the fields of a word is that word: the fields of R80 cover it. -/
@[simp] theorem word_ofWord (w : CommandWord) : (ofWord w).word = w := by
  ext i hi
  simp only [word_eq_placeAt, ofWord, ofBool_getLsbD, BitVec.getElem_or, getElem_placeAt_extractLsb' w _ _ hi,
    ← Bool.and_or_distrib_left, ← Bool.decide_or]
  rw [decide_eq_true (by omega), Bool.and_true]

/-- Two words with the same fields are equal. -/
theorem ofWord_inj {w v : CommandWord} : ofWord w = ofWord v ↔ w = v :=
  (Function.LeftInverse.injective word_ofWord).eq_iff

end Fields

end Sys2Proof
end

section
/-! PROOFS of the family 30_encoding: the decoder and the encoder are inverse to each other (spec/30_encoding.md R80,
R82, R102). -/

namespace Sys2Proof

/-! ## Well-formed fields and their command -/

theorem Instr.fields_wf : ∀ i : Instr, i.fields.wf = true
  | .openCmd cb => Laws.WellFormed.openCmd cb
  | .closeCmd cb => Laws.WellFormed.closeCmd cb
  | .triggerForced cb ot op oh => Laws.WellFormed.triggerForced cb ot op oh
  | .startNormal cb sb => Laws.WellFormed.startNormal cb sb
  | .stop cb => Laws.WellFormed.stop cb
  | .poll cb rd tmo => Laws.WellFormed.poll cb rd tmo
  | .readRaw cb => Laws.WellFormed.readRaw cb
  | .compT cb => Laws.WellFormed.compT cb
  | .compP cb => Laws.WellFormed.compP cb
  | .compH cb => Laws.WellFormed.compH cb

@[simp] theorem Instr.instr?_fields (i : Instr) : i.fields.instr? = some i := by
  cases i <;> rfl

/-- Well-formed fields are those of the command they stand for: each opcode of R82 admits only the fields that its
command has as operands, and the others are 0. -/
theorem Fields.map_fields_instr? {f : Fields} (h : f.wf = true) : f.instr?.map Instr.fields = some f := by
  obtain ⟨opc, cb, rd, rsvLow, ot, op, oh, sb, rsvHigh, tmo⟩ := f
  simp only [wf, allowedOnly] at h
  split at h
  case h_11 => simp at h
  all_goals
    next hopc =>
      simp only [reservedZero, noRd, noOsrs, noSb, noTmo, Bool.and_eq_true, Bool.not_eq_true', beq_iff_eq] at h
      simp [instr?, Instr.fields, hopc, h, ← BitVec.toNat_inj]

/-- Well-formed fields are the fields of some command (R83). -/
theorem Fields.exists_fields_eq {f : Fields} (h : f.wf = true) : ∃ i : Instr, i.fields = f := by
  obtain ⟨i, -, hi⟩ := Option.map_eq_some_iff.1 (map_fields_instr? h)
  exact ⟨i, hi⟩

/-! ## The decoder, in terms of fields -/

/-- A word decodes to `i` exactly when its fields are those of `i`. -/
theorem decode_eq_some_iff {w : CommandWord} {i : Instr} : decode w = some i ↔ Fields.ofWord w = i.fields := by
  constructor
  · intro h
    unfold decode at h
    split at h
    case isTrue hwf => simpa [h] using (Fields.map_fields_instr? hwf).symm
    case isFalse => cases h
  · intro h
    simp [decode, h, Instr.fields_wf]

/-- A word decodes to none exactly when its fields are not well formed (R83). -/
theorem decode_eq_none_iff {w : CommandWord} : decode w = none ↔ ¬ (Fields.ofWord w).wf = true := by
  constructor
  · intro h hwf
    obtain ⟨i, hi⟩ := Fields.exists_fields_eq hwf
    rw [decode_eq_some_iff.2 hi.symm] at h
    cases h
  · intro h
    simp [decode, h]

/-! ## The statements -/

/-- Settles O1: the fields of the word of `i` are the fields of `i`. -/
theorem decodeOfEncodeIsTheCommand : Obligations.DecodeOfEncodeIsTheCommand :=
  fun i => decode_eq_some_iff.2 (Fields.ofWord_word i.fields)

/-- Settles O2: the word of the fields of `w` is `w`. -/
theorem encodeOfDecodeIsTheWord : Obligations.EncodeOfDecodeIsTheWord := by
  intro w i h
  rw [encode, ← decode_eq_some_iff.1 h, Fields.word_ofWord]

/-- Settles O4: fourteen fixed words, each evaluated by the decoder. -/
theorem spelledWordsDecode : Obligations.SpelledWordsDecode := by
  unfold Obligations.SpelledWordsDecode
  decide

/-- Settles O43: the expansions are the definitions, and the three fixed lines are evaluated by the assembler. -/
theorem pseudoInstructionsExpandAsListed : Obligations.PseudoInstructionsExpandAsListed :=
  ⟨fun _ _ _ _ => rfl, rfl, by decide, by decide, by decide⟩

end Sys2Proof
end

section
/-! PROOFS of the family 30_encoding: the mask table of R83 recognises the same words as the field decoder
(spec/30_encoding.md R82 to R84). -/

namespace Sys2Proof

/-! ## Masking, field by field -/

namespace Fields

/-- The bitwise `and` of fields. -/
def inter (f g : Fields) : Fields :=
  ⟨f.opc &&& g.opc, f.cb && g.cb, f.rd && g.rd, f.rsvLow &&& g.rsvLow, f.ot &&& g.ot, f.op &&& g.op,
    f.oh &&& g.oh, f.sb &&& g.sb, f.rsvHigh &&& g.rsvHigh, f.tmo &&& g.tmo⟩

/-- Every bit of every field. -/
def full : Fields :=
  ⟨.allOnes 4, true, true, .allOnes 2, .allOnes 3, .allOnes 3, .allOnes 3, .allOnes 3, .allOnes 12, .allOnes 32⟩

theorem ofWord_and (w m : CommandWord) : ofWord (w &&& m) = (ofWord w).inter (ofWord m) := by
  simp [ofWord, inter, BitVec.extractLsb'_and]

theorem ofWord_setWidth_opc (o : BitVec 4) : ofWord (o.setWidth 64) = ⟨o, false, false, 0, 0, 0, 0, 0, 0, 0⟩ := by
  revert o
  decide

/-- A match is decided by the fields that the mask lets through (R83). -/
theorem match_iff_inter_eq {m : CommandWord} {g : Fields} (hm : ofWord m = g) (w : CommandWord) (o : BitVec 4) :
    w &&& m = o.setWidth 64 ↔ (ofWord w).inter g = ⟨o, false, false, 0, 0, 0, 0, 0, 0, 0⟩ := by
  rw [← ofWord_inj, ofWord_and, hm, ofWord_setWidth_opc]

/-! ## The four `mask` columns of R83: what a match says of the fields -/

/-- No field but CB is allowed. -/
theorem match_maskCB_iff (w : CommandWord) (o : BitVec 4) : let f := ofWord w
    w &&& ~~~maskCB = o.setWidth 64 ↔
      f.opc = o ∧ f.reservedZero = true ∧ f.noRd = true ∧ f.noOsrs = true ∧ f.noSb = true ∧ f.noTmo = true := by
  have hmask : ofWord (~~~maskCB) = { full with cb := false } := by decide
  simp [match_iff_inter_eq hmask, inter, full, reservedZero, noRd, noOsrs, noSb, noTmo,
    and_assoc, and_left_comm, -BitVec.reduceAllOnes]

/-- OT, OP and OH are allowed too. -/
theorem match_maskOsrs_iff (w : CommandWord) (o : BitVec 4) : let f := ofWord w
    w &&& ~~~(maskCB ||| maskOT ||| maskOP ||| maskOH) = o.setWidth 64 ↔
      f.opc = o ∧ f.reservedZero = true ∧ f.noRd = true ∧ f.noSb = true ∧ f.noTmo = true := by
  have hmask : ofWord (~~~(maskCB ||| maskOT ||| maskOP ||| maskOH)) =
      { full with cb := false, ot := 0, op := 0, oh := 0 } := by decide
  simp [match_iff_inter_eq hmask, inter, full, reservedZero, noRd, noSb, noTmo,
    and_assoc, and_left_comm, -BitVec.reduceAllOnes]

/-- SB is allowed too. -/
theorem match_maskSB_iff (w : CommandWord) (o : BitVec 4) : let f := ofWord w
    w &&& ~~~(maskCB ||| maskSB) = o.setWidth 64 ↔
      f.opc = o ∧ f.reservedZero = true ∧ f.noRd = true ∧ f.noOsrs = true ∧ f.noTmo = true := by
  have hmask : ofWord (~~~(maskCB ||| maskSB)) = { full with cb := false, sb := 0 } := by decide
  simp [match_iff_inter_eq hmask, inter, full, reservedZero, noRd, noOsrs, noTmo,
    and_assoc, and_left_comm, -BitVec.reduceAllOnes]

/-- RD and TMO are allowed too. -/
theorem match_maskPoll_iff (w : CommandWord) (o : BitVec 4) : let f := ofWord w
    w &&& ~~~(maskCB ||| maskRD ||| maskTMO) = o.setWidth 64 ↔
      f.opc = o ∧ f.reservedZero = true ∧ f.noOsrs = true ∧ f.noSb = true := by
  have hmask : ofWord (~~~(maskCB ||| maskRD ||| maskTMO)) = { full with cb := false, rd := false, tmo := 0 } := by
    decide
  simp [match_iff_inter_eq hmask, inter, full, reservedZero, noOsrs, noSb,
    and_assoc, and_left_comm, and_comm, -BitVec.reduceAllOnes]

end Fields

/-! ## The table -/

/-- A word matches a row of the table exactly when its opcode is the row's and its fields are well formed (R83). -/
theorem row_match_iff {r : OpcodeRow} (hr : r ∈ opcodeTable) (w : CommandWord) :
    w &&& ~~~r.allowed = r.opc.setWidth 64 ↔ (Fields.ofWord w).opc = r.opc ∧ (Fields.ofWord w).wf = true := by
  simp only [opcodeTable, List.mem_cons, List.not_mem_nil, or_false] at hr
  obtain rfl | rfl | rfl | rfl | rfl | rfl | rfl | rfl | rfl | rfl := hr
  all_goals
    simp only [Fields.match_maskCB_iff, Fields.match_maskOsrs_iff, Fields.match_maskSB_iff, Fields.match_maskPoll_iff,
      and_congr_right_iff]
    intro hopc
    simp [Fields.wf, Fields.allowedOnly, hopc, and_assoc]

/-- Every command has its row in the table (R82). -/
theorem exists_row (i : Instr) : ∃ r ∈ opcodeTable, r.mnemonic = i.mnemonic ∧ i.fields.opc = r.opc := by
  cases i <;> simp [opcodeTable, Instr.mnemonic, Instr.fields]

/-- No two rows of the table have one opcode (R82). -/
theorem row_eq_of_opc_eq : ∀ r ∈ opcodeTable, ∀ r' ∈ opcodeTable, r'.opc = r.opc → r' = r := by
  decide

/-- A word is no command exactly when it matches no row (R83). -/
theorem decode_eq_none_iff_no_row (w : CommandWord) :
    decode w = none ↔ ∀ r ∈ opcodeTable, w &&& ~~~r.allowed ≠ r.opc.setWidth 64 := by
  rw [decode_eq_none_iff]
  constructor
  · intro hwf r hr hmatch
    exact hwf ((row_match_iff hr w).1 hmatch).2
  · intro hnone hwf
    obtain ⟨i, hi⟩ := Fields.exists_fields_eq hwf
    obtain ⟨r, hr, -, hopc⟩ := exists_row i
    exact hnone r hr ((row_match_iff hr w).2 ⟨hi ▸ hopc, hwf⟩)

/-- The word of a command matches its command's row and no other (R83). -/
theorem exists_unique_row {w : CommandWord} {i : Instr} (h : decode w = some i) :
    ∃ r ∈ opcodeTable, r.mnemonic = i.mnemonic ∧ w &&& ~~~r.allowed = r.opc.setWidth 64 ∧
      ∀ r' ∈ opcodeTable, w &&& ~~~r'.allowed = r'.opc.setWidth 64 → r' = r := by
  obtain ⟨r, hr, hmnemonic, hopc⟩ := exists_row i
  have hfields := decode_eq_some_iff.1 h
  refine ⟨r, hr, hmnemonic, (row_match_iff hr w).2 ⟨hfields ▸ hopc, hfields ▸ i.fields_wf⟩, ?_⟩
  intro r' hr' hmatch
  have hopc' := ((row_match_iff hr' w).1 hmatch).1
  exact row_eq_of_opc_eq r hr r' hr' (by rw [← hopc', hfields, hopc])

/-- Settles O3: a row matches exactly when the fields are well formed and the opcode is its own, and opcodes are
distinct. -/
theorem decodingFollowsTheMaskTable : Obligations.DecodingFollowsTheMaskTable := by
  refine ⟨decode_eq_none_iff_no_row, fun w i h => exists_unique_row h, fun s w rest hphase hport hd => ?_⟩
  rw [Machine.step_idle_illegal hphase hport hd]
  -- An illegal word leaves the block IDLE, as it was.
  cases s
  cases hphase
  rfl

end Sys2Proof
end

section
/-! PROOFS of the family 30_encoding: the two forms of a transaction on the bus (spec/30_encoding.md R87). -/

namespace Sys2Proof.Machine

/-- Each of X1 to X8 has one of the two forms (R61, R87). -/
theorem Transaction.form {e : Event} (h : Transaction e) : eventSlave e = some Config.slaveAddr ∧
    ((∃ a n ok bs, e = .read a n ok bs ∧ eventPayload e = some [a] ∧ eventReadLen e = some n ∧
        (n = 1 ∨ n = 7 ∨ n = 8 ∨ n = 26)) ∨
      ∃ a v ok, e = .write a v ok ∧ eventPayload e = some [a, v] ∧ eventReadLen e = some 0) := by
  cases h with
  | x1 ok bs => exact ⟨rfl, .inl ⟨_, _, _, _, rfl, rfl, rfl, by decide⟩⟩
  | x2 ok bs => exact ⟨rfl, .inl ⟨_, _, _, _, rfl, rfl, rfl, by decide⟩⟩
  | x3 ok bs => exact ⟨rfl, .inl ⟨_, _, _, _, rfl, rfl, rfl, by decide⟩⟩
  | x4 v ok => exact ⟨rfl, .inr ⟨_, _, _, rfl, rfl, rfl⟩⟩
  | x5 v ok => exact ⟨rfl, .inr ⟨_, _, _, rfl, rfl, rfl⟩⟩
  | x6 v ok => exact ⟨rfl, .inr ⟨_, _, _, rfl, rfl, rfl⟩⟩
  | x7 ok bs => exact ⟨rfl, .inl ⟨_, _, _, _, rfl, rfl, rfl, by decide⟩⟩
  | x8 ok bs => exact ⟨rfl, .inl ⟨_, _, _, _, rfl, rfl, rfl, by decide⟩⟩

/-- Settles O35: a step adds no transaction but X1 to X8, and each of these has one of the two forms. -/
theorem transactionsHaveTwoForms : Obligations.TransactionsHaveTwoForms :=
  fun _ _ h => (step_addsOnly h).imp fun _ he => he.imp_right Transaction.form

end Sys2Proof.Machine
end

section
/-! PROOFS of the family 40_calibration: a chain of draws as one `consumed`, and a command refused or ended as the
statements write it (spec/00_scope.md R12, 30_encoding.md R80, 60_exceptions.md R231). -/

namespace Sys2Proof.Machine

/-- The opcode field of a command's word is the command's opcode (R80, R82). -/
theorem opcode_encode (i : Instr) : (encode i).extractLsb' 0 4 = i.fields.opc :=
  congrArg Fields.opc (Fields.ofWord_word i.fields)

/-- One answer drawn. -/
theorem drawn_eq_consumed (e : Event) (s : State) : drawn e s = consumed 1 [e] s := by
  simp [drawn, consumed]

/-- One more answer drawn. -/
theorem drawn_consumed (e : Event) (n : Nat) (evs : List Event) (s : State) :
    drawn e (consumed n evs s) = consumed (n + 1) (evs ++ [e]) s := by
  simp [drawn, consumed, Nat.add_assoc]

/-- Storing `cal_buf` changes none of the inputs, so it can wait until the next answer is drawn. -/
theorem drawn_setCalBuf (e : Event) (buf : Vector Byte 33) (s : State) :
    drawn e (setCalBuf buf s) = setCalBuf buf (drawn e s) := rfl

/-- The last contents stored are those that stay. -/
theorem setCalBuf_setCalBuf (buf buf' : Vector Byte 33) (s : State) :
    setCalBuf buf (setCalBuf buf' s) = setCalBuf buf s := rfl

/-- OPEN passes its pre-checks exactly with CB = 0 and no live session (R231). -/
theorem preCheck_openCmd_eq_none_iff (cb : Bool) (s : State) :
    preCheck (.openCmd cb) s = none ↔ cb = false ∧ s.sessionActive = false := by
  simp [preCheck_eq_none_iff, isBusCommand, commandCb, needsOpen, needsNoSession, needsSample, needsTfine]

/-- CB = 1 refuses OPEN (R231, R233). -/
theorem preCheck_openCmd_context (s : State) : preCheck (.openCmd true) s = some .context := rfl

/-- With CB = 0 a live session refuses OPEN (R231, R235). -/
theorem preCheck_openCmd_session {s : State} (h : s.sessionActive = true) :
    preCheck (.openCmd false) s = some .sessionActive := by
  simp [preCheck, isBusCommand, commandCb, needsOpen, needsNoSession, h]

end Sys2Proof.Machine
end

section
/-! PROOFS of the family 40_calibration: OPEN, its paths with the whole next state (spec/40_calibration.md R121). -/

namespace Sys2Proof.Machine

/-- X2 fails, after the identity check. -/
theorem openBody_x2_fails {s : State} (h0 : okAt s 0 = true) (hid : byteAt s 0 0 = 0x60#8) (h1 : okAt s 1 = false) :
    openBody s = openFail .transportError 0x60#32
      (consumed 2 [.read 0xD0 1 true [0x60#8], .read 0x88 26 false []] s) := by
  rw [openBody_identified h0 hid, openCalibration_x2_fails _ (by simpa using h1), drawn_eq_consumed _ s, drawn_consumed]
  rfl

/-- X3 fails: the first block is stored. -/
theorem openBody_x3_fails {s : State} (h0 : okAt s 0 = true) (hid : byteAt s 0 0 = 0x60#8) (h1 : okAt s 1 = true)
    (h2 : okAt s 2 = false) :
    openBody s = openFail .transportError 0x60#32 (setCalBuf (calAfterX2 s) (consumed 3
      [.read 0xD0 1 true [0x60#8], .read 0x88 26 true (bytesAt 26 s 1).toList, .read 0xE1 7 false []] s)) := by
  rw [openBody_identified h0 hid, openCalibration_x3_fails _ (by simpa using h1) (by simpa using h2), bytesAt_drawn,
    drawn_calBuf, storeBlock_first, drawn_setCalBuf, drawn_eq_consumed _ s, drawn_consumed, drawn_consumed]
  rfl

/-- All three reads succeed: both blocks are stored and the coefficients are decoded. -/
theorem openBody_reads {s : State} (h0 : okAt s 0 = true) (hid : byteAt s 0 0 = 0x60#8) (h1 : okAt s 1 = true)
    (h2 : okAt s 2 = true) :
    openBody s = finish .ok 0x60#32 false (loadCoeffs (setCalBuf (calAfterX3 s) (consumed 3
      [.read 0xD0 1 true [0x60#8], .read 0x88 26 true (bytesAt 26 s 1).toList,
        .read 0xE1 7 true (bytesAt 7 s 2).toList] s))) := by
  rw [openBody_identified h0 hid, openCalibration_reads _ (by simpa using h1) (by simpa using h2), bytesAt_drawn,
    bytesAt_drawn, drawn_calBuf, openDone, drawn_setCalBuf, setCalBuf_calBuf, storeBlock_both, setCalBuf_setCalBuf,
    drawn_eq_consumed _ s, drawn_consumed, drawn_consumed]
  rfl

/-- An OPEN that ends with STS 0 found the expected ID, and its three reads succeeded. -/
theorem openBody_answers_of_sts_zero {s : State} (h : (openBody s).sts = 0x00#8) :
    okAt s 0 = true ∧ byteAt s 0 0 = 0x60#8 ∧ okAt s 1 = true ∧ okAt s 2 = true := by
  obtain ⟨-, hb⟩ | ⟨-, -, hb⟩ | ⟨-, -, -, hb⟩ | ⟨-, -, -, -, hb⟩ | ⟨h0, hid, h1, h2, -⟩ := openBody_cases s
  case inr.inr.inr.inr => exact ⟨h0, hid, h1, h2⟩
  all_goals simp [hb, openFail] at h

/-- An OPEN that ends with STS 0 leaves the coefficients of its two bursts. -/
theorem openBody_coef_of_sts_zero {s : State} (h : (openBody s).sts = 0x00#8) :
    (openBody s).coef = decodeCal (calAfterX3 s) := by
  obtain ⟨h0, hid, h1, h2⟩ := openBody_answers_of_sts_zero h
  rw [openBody_reads h0 hid h1 h2]
  rfl

/-- Settles O14: the pre-checks refuse, or the body takes the path its answers choose. -/
theorem openFollowsItsRule : Obligations.OpenFollowsItsRule := by
  refine ⟨fun cb => opcode_encode (.openCmd cb), fun s => ⟨exec_of_refuse (preCheck_openCmd_context s),
    fun hs => exec_of_refuse (preCheck_openCmd_session hs), fun hs => ?_⟩⟩
  have hexec : exec (.openCmd false) s = .next (openBody s) :=
    exec_of_pass ((preCheck_openCmd_eq_none_iff false s).2 ⟨rfl, hs⟩)
  rw [hexec]
  refine ⟨fun h0 => ?_, fun h0 hid => ?_, fun h0 hid h1 => ?_, fun h0 hid h1 h2 => ?_, fun h0 hid h1 h2 => ?_⟩
  · rw [openBody_x1_fails h0, drawn_eq_consumed]
    rfl
  · rw [openBody_mismatch h0 hid, drawn_eq_consumed]
    rfl
  · rw [openBody_x2_fails h0 hid h1]
    rfl
  · rw [openBody_x3_fails h0 hid h1 h2]
    rfl
  · rw [openBody_reads h0 hid h1 h2]
    rfl

end Sys2Proof.Machine
end

section
/-! PROOFS of the family 40_calibration: the decode table in whole numbers, and what it reads (spec/40_calibration.md
R123 to R127). -/

namespace Sys2Proof.Machine

/-! ## Fields put side by side (R124, R126) -/

/-- Two fields that do not overlap: the upper one counts in units of `2 ^ k`. -/
theorem toNat_shiftLeft_or {w : Nat} (hi lo : BitVec w) (k : Nat) (hlo : lo.toNat < 2 ^ k)
    (hhi : hi.toNat * 2 ^ k < 2 ^ w) : (hi <<< k ||| lo).toNat = 2 ^ k * hi.toNat + lo.toNat := by
  rw [BitVec.toNat_or, BitVec.toNat_shiftLeft, Nat.shiftLeft_eq, Nat.mod_eq_of_lt hhi, ← Nat.shiftLeft_eq,
    ← Nat.shiftLeft_add_eq_or_of_lt hlo, Nat.shiftLeft_eq, Nat.mul_comm]

/-- A little-endian pair (R124). -/
theorem toNat_le16 (lo hi : Byte) : (le16 lo hi).toNat = lo.toNat + 256 * hi.toNat := by
  have hz (b : Byte) : (b.setWidth 16).toNat = b.toNat := BitVec.toNat_setWidth_of_le (by decide)
  rw [le16, BitVec.or_comm, toNat_shiftLeft_or _ _ 8 (by rw [hz]; omega) (by rw [hz]; omega), hz, hz]
  omega

/-- A little-endian pair read as s16 (R123, R124). -/
theorem toInt_le16 (lo hi : Byte) : (le16 lo hi).toInt = (lo.toNat + 256 * hi.toNat : Int).bmod 65536 := by
  rw [BitVec.toInt_eq_toNat_bmod, toNat_le16]
  push_cast
  rfl

/-- A byte over a nibble, as a 12-bit field (R126). -/
theorem toNat_byte_over_nibble (b : Byte) (lo : BitVec 12) (hlo : lo.toNat < 16) :
    (zext 12 b <<< 4 ||| lo).toNat = 16 * b.toNat + lo.toNat := by
  have hz : (zext 12 b).toNat = b.toNat := BitVec.toNat_setWidth_of_le (by decide)
  rw [toNat_shiftLeft_or _ _ 4 hlo (by rw [hz]; omega), hz]
  rfl

/-- The low nibble of a byte (R126). -/
theorem toNat_low_nibble (b : Byte) : (zext 12 b &&& 0x00F).toNat = b.toNat % 16 := by
  revert b; decide

/-- The high nibble of a byte (R126). -/
theorem toNat_high_nibble (b : Byte) : (zext 12 b >>> 4).toNat = b.toNat / 16 := by
  revert b; decide

/-- H4: byte 29 over the low nibble of byte 30 (R123, R126). -/
theorem toNat_decodeCal_h4 (b : Vector Byte 33) :
    (decodeCal b).h4.toNat = 16 * b[29].toNat + b[30].toNat % 16 := by
  have hlo := toNat_low_nibble b[30]
  rw [← hlo]
  exact toNat_byte_over_nibble b[29] _ (by omega)

/-- H5: byte 31 over the high nibble of byte 30 (R123, R126). -/
theorem toNat_decodeCal_h5 (b : Vector Byte 33) :
    (decodeCal b).h5.toNat = 16 * b[31].toNat + b[30].toNat / 16 := by
  have hlo := toNat_high_nibble b[30]
  rw [← hlo]
  exact toNat_byte_over_nibble b[31] _ (by omega)

/-- Settles O25: each row of the table is a little-endian pair, a byte read directly, or a byte over a nibble. -/
theorem coefficientsFollowTheDecodeTable : Obligations.CoefficientsFollowTheDecodeTable := by
  intro b u c
  have hu (lo hi : Byte) : ((le16 lo hi).toNat : Int) = u lo hi := by rw [toNat_le16]; push_cast; rfl
  have hs (lo hi : Byte) : (le16 lo hi).toInt = (u lo hi).bmod 65536 := toInt_le16 lo hi
  have h3u : (h3Operand false c.h3).toInt = b[28].toNat := toInt_zext (by decide) b[28]
  have h3s : (h3Operand true c.h3).toInt = b[28].toInt := toInt_sext (by decide) b[28]
  exact ⟨hu _ _, hu _ _, hs _ _, hs _ _, hs _ _, hs _ _, hs _ _, hs _ _, hs _ _, hs _ _, hs _ _, hs _ _, hs _ _,
    rfl, rfl, h3u, h3s, toNat_decodeCal_h4 b, toNat_decodeCal_h5 b⟩

/-! ## What decoding reads (R127) -/

/-- Byte 24 is not decoded (R123). -/
theorem decodeCal_congr {b b' : Vector Byte 33} (h : ∀ (i : Nat) (hi : i < 33), i ≠ 24 → b[i] = b'[i]) :
    decodeCal b = decodeCal b' := by
  simp [decodeCal, h]

/-- Settles O27: after an OPEN that succeeds each byte of `cal_buf` is one that its bursts have read. -/
theorem openDecodesIndependentlyOfHistory : Obligations.OpenDecodesIndependentlyOfHistory := by
  intro s s' t t' h h' hsts hsts' hx2 hx3
  obtain rfl : t = openBody s := (exec_sts_zero h hsts).2
  obtain rfl : t' = openBody s' := (exec_sts_zero h' hsts').2
  rw [openBody_coef_of_sts_zero hsts, openBody_coef_of_sts_zero hsts']
  refine decodeCal_congr fun i hi hne => ?_
  simp only [calAfterX3, Vector.getElem_ofFn]
  split_ifs with hlt
  · exact hx2 i hlt hne
  · exact hx3 (i - 26) (by omega)

end Sys2Proof.Machine
end

section
/-! PROOFS of the family 41_mode_control: TRIGGER_FORCED, START_NORMAL, STOP and CLOSE, each path with the whole next
state (spec/41_mode_control.md R142 to R148, 60_exceptions.md R231). -/

namespace Sys2Proof.Machine

/-! ## The pre-checks, for every command they apply to (R231) -/

section
variable {i : Instr} {s : State}

/-- CB = 1 refuses a command that may issue a transaction (R231 item 2). -/
theorem preCheck_context (s : State) (hbus : isBusCommand i = true) (hcb : commandCb i = true) :
    preCheck i s = some .context := by
  simp [preCheck, hbus, hcb]

/-- With CB = 0 a block that is not open refuses a command gated by `open` (R231 item 3). -/
theorem preCheck_notOpen (hcb : commandCb i = false) (hgated : needsOpen i = true) (ho : s.isOpen = false) :
    preCheck i s = some .notOpen := by
  simp [preCheck, hcb, hgated, ho]

/-- With CB = 0 and the block open, a live session refuses a command that needs none (R231 item 4). -/
theorem preCheck_sessionActive (hcb : commandCb i = false) (ho : s.isOpen = true) (hsingle : needsNoSession i = true)
    (hs : s.sessionActive = true) : preCheck i s = some .sessionActive := by
  simp [preCheck, hcb, ho, hsingle, hs]

end

/-- TRIGGER_FORCED passes its pre-checks exactly with CB = 0, the block open and no live session (R231). -/
theorem preCheck_triggerForced_eq_none_iff (cb : Bool) (ot op oh : BitVec 3) (s : State) :
    preCheck (.triggerForced cb ot op oh) s = none ↔ cb = false ∧ s.isOpen = true ∧ s.sessionActive = false := by
  simp [preCheck_eq_none_iff, isBusCommand, commandCb, needsOpen, needsNoSession, needsSample, needsTfine]

/-- START_NORMAL passes its pre-checks exactly with CB = 0, the block open and no live session (R231). -/
theorem preCheck_startNormal_eq_none_iff (cb : Bool) (sb : BitVec 3) (s : State) :
    preCheck (.startNormal cb sb) s = none ↔ cb = false ∧ s.isOpen = true ∧ s.sessionActive = false := by
  simp [preCheck_eq_none_iff, isBusCommand, commandCb, needsOpen, needsNoSession, needsSample, needsTfine]

/-- STOP passes its pre-checks exactly with CB = 0 (R231). -/
theorem preCheck_stop_eq_none_iff (cb : Bool) (s : State) : preCheck (.stop cb) s = none ↔ cb = false := by
  simp [preCheck_eq_none_iff, isBusCommand, commandCb, needsOpen, needsNoSession, needsSample, needsTfine]

/-- CLOSE passes its pre-checks exactly with CB = 0 (R231). -/
theorem preCheck_closeCmd_eq_none_iff (cb : Bool) (s : State) : preCheck (.closeCmd cb) s = none ↔ cb = false := by
  simp [preCheck_eq_none_iff, isBusCommand, commandCb, needsOpen, needsNoSession, needsSample, needsTfine]

/-- POLL passes its pre-checks exactly with CB = 0 and the block open (R231). -/
theorem preCheck_poll_eq_none_iff (cb rd : Bool) (tmo : BitVec 32) (s : State) :
    preCheck (.poll cb rd tmo) s = none ↔ cb = false ∧ s.isOpen = true := by
  simp [preCheck_eq_none_iff, isBusCommand, commandCb, needsOpen, needsNoSession, needsSample, needsTfine]

/-! ## Updates and draws as one `consumed` -/

/-- An interaction that draws no answer, after some that did. -/
theorem emit_consumed (e : Event) (n : Nat) (evs : List Event) (s : State) :
    emit e (consumed n evs s) = consumed n (evs ++ [e]) s := by
  simp [emit, consumed]

/-- Recording `osrs_h` changes none of the inputs, so it can wait until the next answer is drawn. -/
theorem drawn_setOsrsH (e : Event) (oh : BitVec 3) (s : State) :
    drawn e (setOsrsH oh s) = setOsrsH oh (drawn e s) := rfl

/-- Recording `sb` can wait until the next answer is drawn. -/
theorem drawn_setSb (e : Event) (sb : BitVec 3) (s : State) : drawn e (setSb sb s) = setSb sb (drawn e s) := rfl

/-- Recording `sb` and `mode` can wait until the session's event is in the trace (R144). -/
theorem emit_setMode_setSb (e : Event) (m : BitVec 2) (sb : BitVec 3) (s : State) :
    emit e (setMode m (setSb sb s)) = setMode m (setSb sb (emit e s)) := rfl

/-- The session released, when the block may have none, as one `consumed` and the flag (R148). -/
theorem releaseIfLive_consumed (n : Nat) (evs : List Event) (s : State) :
    releaseIfLive (consumed n evs s) =
      endSession (consumed n (evs ++ if s.sessionActive then [.sessionRelease] else []) s) := by
  refine State.eq_of_fields ?_
  cases hs : s.sessionActive <;> simp [hs]

/-- One more, modulo 2^n, is the wrapped exact sum (R8). -/
theorem ofNat_toNat_add_one {w : Nat} (x : BitVec w) : BitVec.ofNat w (x.toNat + 1) = x + 1#w := by
  rw [BitVec.ofNat_add, BitVec.ofNat_toNat, BitVec.setWidth_eq]

/-! ## CTRL_MEAS from the block's own records, in whole numbers (R143) -/

theorem ctrlMeas_modeNormal (s : State) :
    ctrlMeas s modeNormal = BitVec.ofNat 8 (32 * s.osrsT.toNat + 4 * s.osrsP.toNat + 3) :=
  ctrlMeasByte_eq _ _ _

theorem ctrlMeas_modeSleep (s : State) :
    ctrlMeas s modeSleep = BitVec.ofNat 8 (32 * s.osrsT.toNat + 4 * s.osrsP.toNat) :=
  ctrlMeasByte_eq _ _ _

/-! ## The statements -/

/-- Settles O15: the pre-checks refuse, or the body takes the path its two answers choose. -/
theorem triggerForcedFollowsItsRule : Obligations.TriggerForcedFollowsItsRule := by
  refine ⟨fun cb ot op oh => opcode_encode (.triggerForced cb ot op oh), fun s ot op oh =>
    ⟨exec_of_refuse (preCheck_context s rfl rfl), fun ho => exec_of_refuse (preCheck_notOpen rfl rfl ho),
      fun ho hs => exec_of_refuse (preCheck_sessionActive rfl ho rfl hs), fun ho hs => ?_⟩⟩
  intro hum meas
  have hexec : exec (.triggerForced false ot op oh) s = .next (triggerForcedBody ot op oh s) :=
    exec_of_pass ((preCheck_triggerForced_eq_none_iff false ot op oh s).2 ⟨rfl, ho, hs⟩)
  have hhum : ctrlHumByte oh = hum := ctrlHumByte_eq oh
  have hmeas : ctrlMeasByte ot op modeForced = meas := ctrlMeasByte_eq ot op modeForced
  rw [hexec]
  obtain ⟨h0, hb⟩ | ⟨h0, h1, hb⟩ | ⟨h0, h1, hb⟩ := triggerForcedBody_cases ot op oh s
  · refine ⟨fun _ => ?_, by simp [h0], by simp [h0]⟩
    rw [hb, hhum, drawn_eq_consumed]
    rfl
  · refine ⟨by simp [h0], fun _ _ => ?_, by simp [h1]⟩
    rw [hb, hhum, hmeas, drawn_setOsrsH, drawn_eq_consumed _ s, drawn_consumed]
    rfl
  · refine ⟨by simp [h0], by simp [h1], fun _ _ => ?_⟩
    rw [hb, hhum, hmeas, drawn_setOsrsH, drawn_eq_consumed _ s, drawn_consumed]
    rfl

/-- Settles O16: the pre-checks refuse, or the body takes the path its two answers choose. -/
theorem startNormalFollowsItsRule : Obligations.StartNormalFollowsItsRule := by
  refine ⟨fun cb sb => opcode_encode (.startNormal cb sb), fun s sb =>
    ⟨exec_of_refuse (preCheck_context s rfl rfl), fun ho => exec_of_refuse (preCheck_notOpen rfl rfl ho),
      fun ho hs => exec_of_refuse (preCheck_sessionActive rfl ho rfl hs), fun ho hs => ?_⟩⟩
  intro config meas
  have hexec : exec (.startNormal false sb) s = .next (startNormalBody sb s) :=
    exec_of_pass ((preCheck_startNormal_eq_none_iff false sb s).2 ⟨rfl, ho, hs⟩)
  have hconfig : configByte sb = config := configByte_eq sb
  have hmeas : ctrlMeas s modeNormal = meas := ctrlMeas_modeNormal s
  rw [hexec]
  obtain ⟨h0, hb⟩ | ⟨h0, h1, hb⟩ | ⟨h0, h1, hb⟩ := startNormalBody_cases sb s
  · refine ⟨fun _ => ?_, by simp [h0], by simp [h0]⟩
    rw [hb, hconfig, drawn_eq_consumed]
    rfl
  · refine ⟨by simp [h0], fun _ _ => ?_, by simp [h1]⟩
    rw [hb, hconfig, hmeas, drawn_setSb, drawn_eq_consumed _ s, drawn_consumed]
    rfl
  · refine ⟨by simp [h0], by simp [h1], fun _ _ => ?_⟩
    rw [hb, hconfig, hmeas, drawn_setSb, emit_setMode_setSb, drawn_eq_consumed _ s, drawn_consumed, emit_consumed,
      ofNat_toNat_add_one]
    rfl

/-- Settles O17: with no live session nothing happens, else the session is released whatever the Sleep write answers. -/
theorem stopFollowsItsRule : Obligations.StopFollowsItsRule := by
  refine ⟨fun cb => opcode_encode (.stop cb), fun s => ?_⟩
  intro meas
  have hexec : exec (.stop false) s = .next (stopBody s) := exec_of_pass (preCheck_stop s)
  have hmeas : ctrlMeas s modeSleep = meas := ctrlMeas_modeSleep s
  rw [hexec]
  refine ⟨exec_of_refuse (preCheck_context s rfl rfl), ?_⟩
  obtain ⟨hs, hb⟩ | ⟨hs, h0, hb⟩ | ⟨hs, h0, hb⟩ := stopBody_cases s
  · refine ⟨fun _ => ?_, by simp [hs], by simp [hs]⟩
    rw [hb]
    rfl
  · refine ⟨by simp [hs], fun _ _ => ?_, by simp [h0]⟩
    rw [hb, hmeas, drawn_eq_consumed, emit_consumed]
    rfl
  · refine ⟨by simp [hs], by simp [h0], fun _ _ => ?_⟩
    rw [hb, hmeas, drawn_eq_consumed, emit_consumed]
    rfl

/-- Settles O18: a block that is not open stays as it is, else it is closed whatever the Sleep write answers. -/
theorem closeFollowsItsRule : Obligations.CloseFollowsItsRule := by
  refine ⟨fun cb => opcode_encode (.closeCmd cb), fun s => ?_⟩
  intro meas release
  have hexec : exec (.closeCmd false) s = .next (closeBody s) := exec_of_pass (preCheck_closeCmd s)
  have hmeas : ctrlMeas s modeSleep = meas := ctrlMeas_modeSleep s
  rw [hexec]
  refine ⟨exec_of_refuse (preCheck_context s rfl rfl), ?_⟩
  obtain ⟨ho, hb⟩ | ⟨ho, h0, hb⟩ | ⟨ho, h0, hb⟩ := closeBody_cases s
  · refine ⟨fun _ => ?_, by simp [ho], by simp [ho]⟩
    rw [hb]
    rfl
  · refine ⟨by simp [ho], fun _ _ => ?_, by simp [h0]⟩
    rw [hb, hmeas, drawn_eq_consumed, releaseIfLive_consumed]
    rfl
  · refine ⟨by simp [ho], by simp [h0], fun _ _ => ?_⟩
    rw [hb, hmeas, drawn_eq_consumed, releaseIfLive_consumed]
    rfl

/-! ## STOP twice (R147) -/

/-- STOP ends its command with result 0 (R146). -/
theorem stopBody_phase_res (s : State) : (stopBody s).phase = .idle ∧ (stopBody s).res = 0 := by
  obtain ⟨-, hb⟩ | ⟨-, -, hb⟩ | ⟨-, -, hb⟩ := stopBody_cases s <;> simp [hb]

/-- Ending a command where one has just ended with the same result moves STS alone. -/
theorem finish_of_ended {s : State} {res : Word32} (code : OutcomeCode) (deg : Bool) (hp : s.phase = .idle)
    (hr : s.res = res) : finish code res deg s = { s with sts := stsWord code deg } := by
  rw [finish, ← hp, ← hr]

/-- STOP with no live session latches the outputs alone (R146). -/
theorem stopBody_of_no_session {s : State} (h : s.sessionActive = false) : stopBody s = finish .ok 0 false s := by
  simp [stopBody, h]

/-- Settles O39: the first STOP leaves no live session, the block IDLE and the result 0. -/
theorem stopIsIdempotent : Obligations.StopIsIdempotent := by
  intro s t h
  obtain rfl : t = stopBody s := eq_body_of_exec (preCheck_stop s) h
  obtain ⟨hphase, hres⟩ := stopBody_phase_res s
  have hexec : exec (.stop false) (stopBody s) = .next (stopBody (stopBody s)) := exec_of_pass (preCheck_stop _)
  rw [hexec, stopBody_of_no_session (stopBody_sessionActive s), finish_of_ended _ _ hphase hres]
  rfl

/-! ## Who moves `mode` (R30, R140) -/

/-- TRIGGER_FORCED leaves `mode`, or with both writes good makes it 1 (R142). -/
theorem triggerForcedBody_mode_cases (ot op oh : BitVec 3) (s : State) :
    (triggerForcedBody ot op oh s).mode = s.mode ∨
    ((triggerForcedBody ot op oh s).mode = 1 ∧ okAt s 0 = true ∧ okAt s 1 = true) := by
  obtain ⟨-, hb⟩ | ⟨-, -, hb⟩ | ⟨h0, h1, hb⟩ := triggerForcedBody_cases ot op oh s
  · exact .inl (by simp [hb])
  · exact .inl (by simp [hb])
  · exact .inr ⟨by simp [hb, modeForced], h0, h1⟩

/-- START_NORMAL leaves `mode`, or with both writes good makes it 3 and the session live (R144). -/
theorem startNormalBody_mode_cases (sb : BitVec 3) (s : State) :
    (startNormalBody sb s).mode = s.mode ∨
    ((startNormalBody sb s).mode = 3 ∧ (startNormalBody sb s).sessionActive = true ∧
      okAt s 0 = true ∧ okAt s 1 = true) := by
  obtain ⟨-, hb⟩ | ⟨-, -, hb⟩ | ⟨h0, h1, hb⟩ := startNormalBody_cases sb s
  · exact .inl (by simp [hb])
  · exact .inl (by simp [hb])
  · exact .inr ⟨by simp [hb, modeNormal], by simp [hb], h0, h1⟩

/-- STOP leaves `mode`, or makes it 0 where a live session's Sleep write is good (R146). -/
theorem stopBody_mode_cases (s : State) :
    (stopBody s).mode = s.mode ∨ ((stopBody s).mode = 0 ∧ s.sessionActive = true ∧ okAt s 0 = true) := by
  obtain ⟨-, hb⟩ | ⟨hs, h0, hb⟩ | ⟨-, -, hb⟩ := stopBody_cases s
  · exact .inl (by simp [hb])
  · exact .inr ⟨by simp [hb, modeSleep], hs, h0⟩
  · exact .inl (by simp [hb])

/-- CLOSE leaves `mode`, or makes it 0 where an open block's Sleep write is good (R148). -/
theorem closeBody_mode_cases (s : State) :
    (closeBody s).mode = s.mode ∨
    ((closeBody s).mode = 0 ∧ (closeBody s).isOpen = false ∧ s.isOpen = true ∧ okAt s 0 = true) := by
  obtain ⟨-, hb⟩ | ⟨ho, h0, hb⟩ | ⟨-, -, hb⟩ := closeBody_cases s
  · exact .inl (by simp [hb])
  · exact .inr ⟨by simp [hb, modeSleep], by simp [hb], ho, h0⟩
  · exact .inl (by simp [hb])

/-- The forced measurement's end leaves `mode`, or moves it from 1 to 0 (R150). -/
theorem measurementDone_mode_cases (s : State) :
    (measurementDone s).mode = s.mode ∨ (s.mode = 1 ∧ (measurementDone s).mode = 0) := by
  rw [measurementDone_eq, setMode_mode]
  split_ifs with hm
  · exact .inr ⟨hm, rfl⟩
  · exact .inl rfl

/-- The raw read of a ready device does not touch `mode` (R150). -/
theorem pollReady_mode (rd : Bool) (s : State) : (pollReady rd s).mode = (measurementDone s).mode := by
  cases rd with
  | false => rfl
  | true =>
    cases h : okAt s 0 with
    | false => rw [pollReady_x8_fails h]; rfl
    | true => rw [pollReady_reads h]; rfl

/-- A pass of POLL leaves `mode`, or finds the device ready and moves it from 1 to 0 (R150). -/
theorem pollPass_mode_cases (rd : Bool) (tmo : BitVec 32) (s : State) :
    (pollPass rd tmo s).mode = s.mode ∨
    (s.mode = 1 ∧ (pollPass rd tmo s).mode = 0 ∧ okAt s 0 = true ∧ byteAt s 0 0 &&& 0x05#8 = 0#8) := by
  obtain ⟨-, hb⟩ | ⟨h0, hr, -⟩ | ⟨-, -, ⟨-, -, hb⟩ | ⟨-, hb⟩⟩ := pollPass_cases rd tmo s
  · exact .inl (by simp [hb])
  · rw [pollPass_ready rd tmo h0 hr, pollReady_mode]
    exact (measurementDone_mode_cases _).imp_right fun ⟨h1, h2⟩ => ⟨h1, h2, h0, hr⟩
  · exact .inl (by simp [hb])
  · exact .inl (by simp [hb])

/-- Settles O38: `mode` is in the frame of every body but five, and each of these moves it on one path alone. -/
theorem modeMovesOnlyAsTabled : Obligations.ModeMovesOnlyAsTabled := by
  constructor
  · intro i s t h hmode
    obtain ⟨code, -, rfl⟩ | ⟨hp, rfl⟩ := exec_cases h
    · exact absurd rfl hmode
    cases i with
    | triggerForced cb ot op oh =>
      obtain ⟨rfl, ho, hs⟩ := (preCheck_triggerForced_eq_none_iff cb ot op oh s).1 hp
      obtain ⟨hm, h0, h1⟩ := (triggerForcedBody_mode_cases ot op oh s).resolve_left hmode
      exact .inl ⟨ho, hs, hm, h0, h1, ot, op, oh, rfl⟩
    | startNormal cb sb =>
      obtain ⟨rfl, ho, hs⟩ := (preCheck_startNormal_eq_none_iff cb sb s).1 hp
      obtain ⟨hm, hlive, h0, h1⟩ := (startNormalBody_mode_cases sb s).resolve_left hmode
      exact .inr (.inl ⟨ho, hs, hm, hlive, h0, h1, sb, rfl⟩)
    | poll cb rd tmo =>
      obtain ⟨rfl, -⟩ := (preCheck_poll_eq_none_iff cb rd tmo s).1 hp
      obtain ⟨hm, hm', h0, hr⟩ := (pollPass_mode_cases rd tmo (pollStart s)).resolve_left hmode
      exact .inr (.inr (.inl ⟨hm, hm', h0, hr, rd, tmo, rfl⟩))
    | stop cb =>
      obtain rfl := (preCheck_stop_eq_none_iff cb s).1 hp
      obtain ⟨hm, hs, h0⟩ := (stopBody_mode_cases s).resolve_left hmode
      exact .inr (.inr (.inr (.inl ⟨hs, hm, stopBody_sessionActive s, h0, rfl⟩)))
    | closeCmd cb =>
      obtain rfl := (preCheck_closeCmd_eq_none_iff cb s).1 hp
      obtain ⟨hm, hclosed, ho, h0⟩ := (closeBody_mode_cases s).resolve_left hmode
      exact .inr (.inr (.inr (.inr ⟨ho, hm, hclosed, h0, rfl⟩)))
    | openCmd cb => exact absurd (by simp [bodyOf]) hmode
    | readRaw cb => exact absurd (by simp [bodyOf]) hmode
    | compT cb => exact absurd (by simp [bodyOf, compTBody]) hmode
    | compP cb => exact absurd (by simp [bodyOf, compPBody]) hmode
    | compH cb => exact absurd (by simp [bodyOf, compHBody]) hmode
  · intro s t rd tmo hbusy h hmode
    obtain rfl := eq_pollPass_of_step hbusy h
    exact (pollPass_mode_cases rd tmo s).resolve_left hmode

end Sys2Proof.Machine
end

section
/-! PROOFS of the family 41_mode_control: POLL, each path of a pass with the whole next state (spec/41_mode_control.md
R149, R150). -/

namespace Sys2Proof.Machine

/-- A pass does not read the phase, and sets it however it ends (R36, R150). -/
theorem pollPass_withPhase (rd : Bool) (tmo : BitVec 32) (p : Phase) (s : State) :
    pollPass rd tmo { s with phase := p } = pollPass rd tmo s := rfl

/-- POLL past its pre-checks does what the loop does from the start values of the poll registers (R150). -/
theorem exec_poll {s : State} (rd : Bool) (tmo : BitVec 32) (ho : s.isOpen = true) :
    exec (.poll false rd tmo) s = step { pollStart s with phase := .busy rd tmo } := by
  have hstep : step { pollStart s with phase := .busy rd tmo } = .next (pollPass rd tmo (pollStart s)) := by
    rw [step_busy rfl, pollPass_withPhase]
  rw [hstep]
  exact exec_of_pass ((preCheck_poll_eq_none_iff false rd tmo s).2 ⟨rfl, ho⟩)

/-! ## Updates and draws as one `consumed` -/

/-- Counting a read changes none of the inputs, so it can wait until the next answer is drawn. -/
theorem drawn_countRead (e : Event) (s : State) : drawn e (countRead s) = countRead (drawn e s) := rfl

/-- The forced measurement's end can wait until the next answer is drawn. -/
theorem drawn_measurementDone (e : Event) (s : State) :
    drawn e (measurementDone s) = measurementDone (drawn e s) := rfl

/-- What an unready pass leaves, before it loops or ends (R150). -/
theorem waited_eq (s : State) :
    waited s = addDelay (countRead (consumed 1 [.read 0xF3 1 true [byteAt s 0 0], .delay s.pollD] s)) := by
  have hemit (t : State) : emit (.delay s.pollD) (countRead t) = countRead (emit (.delay s.pollD) t) := rfl
  rw [waited, hemit, drawn_eq_consumed, emit_consumed]
  rfl

/-! ## A pass that finds the device ready (R150) -/

/-- Ready with no read asked for. -/
theorem pollPass_ready_noRead {s : State} (tmo : BitVec 32) (h0 : okAt s 0 = true)
    (hr : byteAt s 0 0 &&& 0x05#8 = 0#8) : pollPass false tmo s =
      pollFinish .ok (measurementDone (countRead (consumed 1 [.read 0xF3 1 true [byteAt s 0 0]] s))) := by
  rw [pollPass_ready false tmo h0 hr, pollReady_noRead, drawn_eq_consumed]

/-- Ready, and the raw read fails. -/
theorem pollPass_ready_x8_fails {s : State} (tmo : BitVec 32) (h0 : okAt s 0 = true)
    (hr : byteAt s 0 0 &&& 0x05#8 = 0#8) (h1 : okAt s 1 = false) : pollPass true tmo s =
      pollFinish .transportError (measurementDone (countRead
        (consumed 2 [.read 0xF3 1 true [byteAt s 0 0], .read 0xF7 8 false []] s))) := by
  rw [pollPass_ready true tmo h0 hr, pollReady_x8_fails (by simpa using h1), drawn_measurementDone, drawn_countRead,
    drawn_eq_consumed _ s, drawn_consumed]
  rfl

/-- Ready, and the sample is read. -/
theorem pollPass_ready_reads {s : State} (tmo : BitVec 32) (h0 : okAt s 0 = true)
    (hr : byteAt s 0 0 &&& 0x05#8 = 0#8) (h1 : okAt s 1 = true) : pollPass true tmo s =
      pollFinish .ok (takeSample (bytesAt 8 s 1) (measurementDone (countRead
        (consumed 2 [.read 0xF3 1 true [byteAt s 0 0], .read 0xF7 8 true (bytesAt 8 s 1).toList] s)))) := by
  rw [pollPass_ready true tmo h0 hr, pollReady_reads (by simpa using h1), bytesAt_countRead, bytesAt_drawn,
    drawn_measurementDone, drawn_countRead, drawn_eq_consumed _ s, drawn_consumed]
  rfl

/-! ## The statements -/

/-- Settles O19: POLL is its loop from the start values, and a pass takes the path its answers and the timeout choose. -/
theorem pollFollowsItsRule : Obligations.PollFollowsItsRule := by
  refine ⟨fun cb rd tmo => opcode_encode (.poll cb rd tmo), fun s rd tmo =>
    ⟨exec_of_refuse (preCheck_context s rfl rfl), fun ho => exec_of_refuse (preCheck_notOpen rfl rfl ho),
      fun ho t => by rw [exec_poll rd tmo ho]; exact Iff.rfl⟩, fun s rd tmo hbusy => ?_⟩
  intro low reads st mode' total
  have hreads : reads = s.pollReads + 1 := ofNat_toNat_add_one s.pollReads
  rw [step_busy hbusy, hreads]
  refine ⟨fun h0 => ?_, fun h0 hr hrd => ?_, fun h0 hr hrd h1 => ?_, fun h0 hr hrd h1 => ?_,
    fun h0 hr htmo hlt => ?_, fun h0 hr hle => ?_⟩
  · rw [pollPass_x7_fails rd tmo h0, drawn_eq_consumed]
    rfl
  · rw [hrd, pollPass_ready_noRead tmo h0 hr]
    rfl
  · rw [hrd, pollPass_ready_x8_fails tmo h0 hr h1]
    rfl
  · rw [hrd, pollPass_ready_reads tmo h0 hr h1]
    rfl
  · rw [pollPass_times_out rd h0 hr htmo hlt, waited_eq]
    rfl
  · -- The phase is BUSY with these operands before the pass as after it.
    rw [pollPass_again rd h0 hr hle, waited_eq, loopAgain, ← hbusy]
    rfl

/-- Settles O20: the first pass finds the device ready, with `poll_total` still 0. -/
theorem pollOfAReadyDeviceEndsAtOnce : Obligations.PollOfAReadyDeviceEndsAtOnce := by
  intro s tmo ho h0 hr mode'
  have hexec (rd : Bool) : exec (.poll false rd tmo) s = .next (pollPass rd tmo (pollStart s)) :=
    exec_of_pass ((preCheck_poll_eq_none_iff false rd tmo s).2 ⟨rfl, ho⟩)
  rw [hexec, hexec]
  refine ⟨?_, fun h1 => ?_⟩
  · rw [pollPass_ready_noRead (s := pollStart s) tmo h0 hr]
    rfl
  · rw [pollPass_ready_reads (s := pollStart s) tmo h0 hr h1]
    rfl

end Sys2Proof.Machine
end

section
/-! PROOFS of the family 41_mode_control: the delay schedule of POLL and what follows from it (spec/41_mode_control.md
R151, R152). -/

namespace Sys2Proof.Machine

open Reference (pollDelay pollTotal pollEvents)

/-! ## The schedule in whole numbers (R151) -/

theorem pollDelay_le (k : Nat) : pollDelay k ≤ 32768 := Nat.min_le_right _ _

/-- The delay doubles up to its cap (R150). -/
theorem pollDelay_succ (k : Nat) : pollDelay (k + 1) = min (2 * pollDelay k) 32768 := by
  simp only [pollDelay, pow_succ]
  omega

/-- The total gains one delay per pass. -/
theorem pollTotal_succ (k : Nat) : pollTotal (k + 1) = pollTotal k + pollDelay (k + 1) := by
  unfold pollTotal pollDelay
  obtain hk | rfl | hk : k < 15 ∨ k = 15 ∨ 15 < k := by omega
  · have hpow : 2 ^ (k + 1) ≤ 2 ^ 15 := Nat.pow_le_pow_right (by decide) (by omega)
    have hpos : 0 < 2 ^ (k + 1) := Nat.two_pow_pos _
    rw [if_pos (by omega), if_pos (by omega), pow_succ 2 (k + 1)]
    omega
  · decide
  · have hpow : 2 ^ 15 ≤ 2 ^ (k + 1) := Nat.pow_le_pow_right (by decide) (by omega)
    rw [if_neg (by omega), if_neg (by omega)]
    omega

/-- After `16 + n / 32768` delays the total has passed `n`. -/
theorem lt_pollTotal (n : Nat) : n < pollTotal (16 + n / 32768) := by
  rw [pollTotal, if_neg (by omega)]
  omega

/-- The least number of delays whose total passes `n` (R151). -/
theorem exists_least_pollTotal (n : Nat) : ∃ k, k + 1 ≤ 16 + n / 32768 ∧ n < pollTotal (k + 1) ∧
    ∀ j < k + 1, pollTotal j ≤ n := by
  have hex : ∃ k, n < pollTotal k := ⟨_, lt_pollTotal n⟩
  have hpos : Nat.find hex ≠ 0 := fun h0 => Nat.not_lt_zero n ((Nat.find_eq_zero hex).1 h0)
  obtain ⟨k, hk⟩ := Nat.exists_eq_add_one_of_ne_zero hpos
  refine ⟨k, ?_⟩
  rw [← hk]
  exact ⟨Nat.find_min' hex (lt_pollTotal n), Nat.find_spec hex, fun j hj => Nat.le_of_not_lt (Nat.find_min hex hj)⟩

/-! ## A state on the schedule -/

/-- The poll registers are those of `k` passes of the schedule. -/
structure OnSchedule (k : Nat) (s : State) : Prop where
  delay : s.pollD = BitVec.ofNat 16 (pollDelay (k + 1))
  total : s.pollTotal = BitVec.ofNat 64 (pollTotal k)
  reads : s.pollReads = BitVec.ofNat 32 k

/-- The schedule read through `toNat`, as `PollProgress` states it. -/
theorem onSchedule_iff (k : Nat) (s : State) : OnSchedule k s ↔
    s.pollD.toNat = pollDelay (k + 1) ∧ s.pollTotal.toNat = pollTotal k % 2 ^ 64 ∧ s.pollReads.toNat = k % 2 ^ 32 := by
  have hd : pollDelay (k + 1) % 2 ^ 16 = pollDelay (k + 1) :=
    Nat.mod_eq_of_lt (Nat.lt_of_le_of_lt (pollDelay_le _) (by decide))
  constructor
  · rintro ⟨h1, h2, h3⟩
    rw [h1, h2, h3]
    simp only [BitVec.toNat_ofNat, hd, and_self]
  · rintro ⟨h1, h2, h3⟩
    exact ⟨BitVec.eq_of_toNat_eq (by rw [h1, BitVec.toNat_ofNat, hd]),
      BitVec.eq_of_toNat_eq (by rw [h2, BitVec.toNat_ofNat]), BitVec.eq_of_toNat_eq (by rw [h3, BitVec.toNat_ofNat])⟩

/-- A POLL starts on the schedule (R150). -/
theorem onSchedule_pollStart (s : State) : OnSchedule 0 (pollStart s) := ⟨rfl, rfl, rfl⟩

/-- A delay on the schedule brings the total to the next pass's. -/
theorem OnSchedule.total_add {k : Nat} {s : State} (h : OnSchedule k s) :
    s.pollTotal + s.pollD.setWidth 64 = BitVec.ofNat 64 (pollTotal (k + 1)) := by
  have hd := pollDelay_le (k + 1)
  have hzext : (BitVec.ofNat 16 (pollDelay (k + 1))).setWidth 64 = BitVec.ofNat 64 (pollDelay (k + 1)) := by
    refine BitVec.eq_of_toNat_eq ?_
    rw [BitVec.toNat_setWidth, BitVec.toNat_ofNat, BitVec.toNat_ofNat]
    omega
  rw [h.total, h.delay, hzext, pollTotal_succ, BitVec.ofNat_add]

/-- The delay doubles to the next pass's. -/
theorem OnSchedule.nextDelay {k : Nat} {s : State} (h : OnSchedule k s) :
    nextDelay s.pollD = BitVec.ofNat 16 (pollDelay (k + 2)) := by
  have hd := pollDelay_le (k + 1)
  rw [Machine.nextDelay, h.delay, BitVec.toNat_ofNat, Nat.mod_eq_of_lt (by omega), pollDelay_succ (k + 1)]
  rfl

/-- A pass that loops goes on to the next pass of the schedule (R150). -/
theorem OnSchedule.loopAgain_waited {k : Nat} {s : State} (h : OnSchedule k s) (rd : Bool) (tmo : BitVec 32) :
    OnSchedule (k + 1) (loopAgain rd tmo (waited s)) where
  delay := h.nextDelay
  total := h.total_add
  reads := by
    rw [BitVec.ofNat_add, ← h.reads]
    rfl

/-- With a timeout that the total has not passed, the next total does not wrap: the registers see the exact one. -/
theorem OnSchedule.toNat_total_add {k : Nat} {s : State} {tmo : BitVec 32} (h : OnSchedule k s)
    (hle : pollTotal k ≤ tmo.toNat) : (s.pollTotal + s.pollD.setWidth 64).toNat = pollTotal (k + 1) := by
  have hd := pollDelay_le (k + 1)
  have hsucc := pollTotal_succ k
  rw [h.total_add, BitVec.toNat_ofNat, Nat.mod_eq_of_lt (by omega)]

/-! ## Every step keeps a running POLL on the schedule -/

/-- An IDLE block runs no POLL. -/
theorem PollProgress.of_idle {s : State} (h : s.phase = .idle) : PollProgress s := by
  intro rd tmo hbusy
  rw [h] at hbusy
  cases hbusy

/-- A pass from the schedule ends the POLL, or loops on the schedule with the total within the timeout. -/
theorem OnSchedule.pollPass_progress {k : Nat} {s : State} (h : OnSchedule k s) (rd : Bool) {tmo : BitVec 32}
    (hle : tmo ≠ 0 → pollTotal k ≤ tmo.toNat) : PollProgress (pollPass rd tmo s) := by
  obtain ⟨-, hb⟩ | ⟨-, -, ⟨-, hb⟩ | ⟨-, -, hb⟩ | ⟨-, -, hb⟩⟩ | ⟨-, -, ⟨-, -, hb⟩ | ⟨ht, hb⟩⟩ :=
    pollPass_cases rd tmo s
  case inr.inr.inr =>
    rw [hb]
    intro rd' tmo' hbusy
    obtain ⟨rfl, rfl⟩ : rd = rd' ∧ tmo = tmo' := by simpa using hbusy
    obtain ⟨hd, htotal, hreads⟩ := (onSchedule_iff _ _).1 (h.loopAgain_waited rd tmo)
    refine ⟨k + 1, by omega, hd, htotal, hreads, fun htmo => ?_⟩
    rw [← h.toNat_total_add (hle htmo)]
    exact ht.resolve_left htmo
  all_goals exact .of_idle (by rw [hb]; rfl)

/-- A command leaves the block IDLE, or is a POLL after its first pass. -/
theorem exec_pollProgress {i : Instr} {s t : State} (h : exec i s = .next t) : PollProgress t := by
  obtain ⟨code, -, rfl⟩ | ⟨-, rfl⟩ := exec_cases h
  · exact .of_idle rfl
  · by_cases hpoll : ∃ cb rd tmo, i = .poll cb rd tmo
    · obtain ⟨cb, rd, tmo, rfl⟩ := hpoll
      exact (onSchedule_pollStart s).pollPass_progress rd fun _ => Nat.zero_le _
    · push Not at hpoll
      exact .of_idle (bodyOf_phase i s hpoll)

/-- Settles O11: a step is a pass of the running POLL, an idle step, an ILLEGAL word or a command. -/
theorem stepKeepsThePollOnSchedule : Obligations.StepKeepsThePollOnSchedule := by
  intro s t h hstep
  obtain ⟨rd, tmo, hbusy, rfl⟩ | ⟨-, -, rfl⟩ | ⟨w, rest, -, -, -, rfl⟩ | ⟨w, rest, i, -, -, -, he⟩ := step_cases hstep
  · obtain ⟨k, -, hd, htotal, hreads, hle⟩ := h rd tmo hbusy
    exact ((onSchedule_iff k s).2 ⟨hd, htotal, hreads⟩).pollPass_progress rd hle
  · exact h
  · exact .of_idle rfl
  · exact exec_pollProgress he

/-! ## A POLL on a device that stays unready -/

/-- A POLL that `s` was given, BUSY after `k` unready passes. -/
def pollRunning (rd : Bool) (tmo : BitVec 32) (k : Nat) (s : State) : State :=
  { consumed k (pollEvents (fun j => byteAt s j 0) k) s with
    pollD := BitVec.ofNat 16 (pollDelay (k + 1)), pollTotal := BitVec.ofNat 64 (pollTotal k),
    pollReads := BitVec.ofNat 32 k, phase := .busy rd tmo }

section
variable (rd : Bool) (tmo : BitVec 32) (k : Nat) (s : State)

theorem onSchedule_pollRunning : OnSchedule k (pollRunning rd tmo k s) := ⟨rfl, rfl, rfl⟩

/-- Before its first pass POLL has only started its registers (R150). -/
theorem pollRunning_zero : pollRunning rd tmo 0 s = { pollStart s with phase := .busy rd tmo } := by
  simp [pollRunning, consumed, pollEvents, pollStart, pollDelay, pollTotal, Config.pollD0]

/-- The answers to come after `k` passes. -/
@[simp] theorem okAt_pollRunning (j : Nat) : okAt (pollRunning rd tmo k s) j = okAt s (k + j) :=
  answerOk_congr (by simp [pollRunning]) (by simp [pollRunning, Nat.add_assoc])

@[simp] theorem byteAt_pollRunning (j i : Nat) : byteAt (pollRunning rd tmo k s) j i = byteAt s (k + j) i :=
  answerByte_congr (by simp [pollRunning]) (by simp [pollRunning, Nat.add_assoc]) i

/-- One more unready pass, up to its delay. -/
theorem waited_pollRunning : waited (pollRunning rd tmo k s) =
    { pollRunning rd tmo (k + 1) s with pollD := BitVec.ofNat 16 (pollDelay (k + 1)) } := by
  have htotal := (onSchedule_pollRunning rd tmo k s).total_add
  rw [waited_eq, byteAt_pollRunning, Nat.add_zero]
  refine State.eq_of_fields ?_
  simpa [pollRunning, pollEvents, zext, BitVec.ofNat_add, Nat.add_assoc] using htotal

/-- One more unready pass, with the delay doubled. -/
theorem loopAgain_waited_pollRunning :
    loopAgain rd tmo (waited (pollRunning rd tmo k s)) = pollRunning rd tmo (k + 1) s := by
  have hd : nextDelay (BitVec.ofNat 16 (pollDelay (k + 1))) = BitVec.ofNat 16 (pollDelay (k + 2)) :=
    (onSchedule_pollRunning rd tmo k s).nextDelay
  rw [waited_pollRunning, loopAgain, hd]
  rfl

end

/-- While the device is unready and the timeout, if any, is not passed, the POLL runs on the schedule. -/
theorem run_pollRunning (rd : Bool) {tmo : BitVec 32} {k : Nat} {s : State} (hun : unreadyFor k s)
    (hle : tmo = 0 ∨ pollTotal k ≤ tmo.toNat) :
    core.run k (pollRunning rd tmo 0 s) = .next (pollRunning rd tmo k s) := by
  induction k with
  | zero => rfl
  | succ k ih =>
    have hsucc := pollTotal_succ k
    obtain ⟨h0, hr⟩ := hun k (by omega)
    refine run_snoc (ih (fun j hj => hun j (by omega)) (hle.imp_right fun h => by omega)) ?_
    rw [step_busy rfl, pollPass_again rd (by simpa using h0) (by simpa using hr), loopAgain_waited_pollRunning]
    refine hle.imp_right fun h => ?_
    rwa [(onSchedule_pollRunning rd tmo k s).toNat_total_add (tmo := tmo) (by omega)]

/-- A run of a POLL on an open block begins with the command itself. -/
theorem exec_poll_run {s t : State} {rd : Bool} {tmo : BitVec 32} {k : Nat} (ho : s.isOpen = true)
    (h : core.run (k + 1) (pollRunning rd tmo 0 s) = .next t) :
    ∃ u, exec (.poll false rd tmo) s = .next u ∧ core.run k u = .next t := by
  have hstep : step (pollRunning rd tmo 0 s) = .next (pollPass rd tmo (pollRunning rd tmo 0 s)) := step_busy rfl
  refine ⟨pollPass rd tmo (pollRunning rd tmo 0 s), ?_, ?_⟩
  · rw [exec_poll rd tmo ho, ← pollRunning_zero, hstep]
  · rw [← run_succ k hstep, h]

/-- Settles O42: without a timeout every unready pass loops. -/
theorem unboundedPollNeverEnds : Obligations.UnboundedPollNeverEnds := by
  intro k s rd ho hun
  obtain ⟨u, hexec, hrun⟩ := exec_poll_run ho (run_pollRunning rd hun (.inl rfl))
  exact ⟨u, _, hexec, hrun, rfl, rfl, BitVec.toNat_ofNat _ _, BitVec.toNat_ofNat _ _⟩

/-- Settles O41: all passes but the last loop, and the last one's total is the first to pass the timeout. -/
theorem unreadyPollTimesOutOnSchedule : Obligations.UnreadyPollTimesOutOnSchedule := by
  intro s rd tmo ho htmo
  obtain ⟨k, hbound, hpassed, hleast⟩ := exists_least_pollTotal tmo.toNat
  refine ⟨k + 1, by omega, hbound, hpassed, hleast, fun hun => ?_⟩
  have hle : pollTotal k ≤ tmo.toNat := hleast k (by omega)
  obtain ⟨h0, hr⟩ := hun k (by omega)
  refine exec_poll_run ho (run_snoc (run_pollRunning rd (fun j hj => hun j (by omega)) (.inr hle)) ?_)
  have htotal := (onSchedule_pollRunning rd tmo k s).toNat_total_add hle
  have hpass := pollPass_times_out rd (s := pollRunning rd tmo k s) (by simpa using h0) (by simpa using hr) htmo
    (by rwa [htotal])
  rw [step_busy rfl, Nat.add_sub_cancel, hpass, waited_pollRunning]
  have hres : (BitVec.ofNat 64 (pollTotal (k + 1))).setWidth 32 = BitVec.ofNat 32 (pollTotal (k + 1)) :=
    BitVec.setWidth_ofNat_of_le (by decide) _
  rw [← hres]
  rfl

end Sys2Proof.Machine
end

section
/-! PROOFS of the family 42_raw_reader: READ_RAW, each path with the whole next state (spec/42_raw_reader.md R181). -/

namespace Sys2Proof.Machine

/-- READ_RAW passes its pre-checks exactly with CB = 0 and the block open (R231). -/
theorem preCheck_readRaw_eq_none_iff (cb : Bool) (s : State) :
    preCheck (.readRaw cb) s = none ↔ cb = false ∧ s.isOpen = true := by
  simp [preCheck_eq_none_iff, isBusCommand, commandCb, needsOpen, needsNoSession, needsSample, needsTfine]

/-- Settles O21: the pre-checks refuse, or the body takes the path its one answer chooses. -/
theorem readRawFollowsItsRule : Obligations.ReadRawFollowsItsRule := by
  refine ⟨fun cb => opcode_encode (.readRaw cb), fun s => ⟨exec_of_refuse (preCheck_context s rfl rfl),
    fun ho => exec_of_refuse (preCheck_notOpen rfl rfl ho), ?_⟩⟩
  have hexec (ho : s.isOpen = true) : exec (.readRaw false) s = .next (readRawBody s) :=
    exec_of_pass ((preCheck_readRaw_eq_none_iff false s).2 ⟨rfl, ho⟩)
  obtain ⟨h0, hb⟩ | ⟨h0, hb⟩ := readRawBody_cases s
  · refine ⟨fun ho _ => ?_, by simp [h0]⟩
    rw [hexec ho, hb, drawn_eq_consumed]
    rfl
  · refine ⟨by simp [h0], fun ho _ => ?_⟩
    rw [hexec ho, hb, drawn_eq_consumed]
    rfl

end Sys2Proof.Machine
end

section
/-! PROOFS of the family 42_raw_reader: the fan-out in whole numbers (spec/42_raw_reader.md R180). -/

namespace Sys2Proof.Machine

/-- A big-endian pair (R180). -/
theorem toNat_be16 (x y : Byte) : (be16 x y).toNat = 256 * x.toNat + y.toNat := by
  have hz (b : Byte) : (b.setWidth 16).toNat = b.toNat := BitVec.toNat_setWidth_of_le (by decide)
  rw [be16, toNat_shiftLeft_or _ _ 8 (by rw [hz]; omega) (by rw [hz]; omega), hz, hz]
  rfl

/-- A big-endian triple: the high byte over the pair of the other two (R180). -/
theorem toNat_be24 (x y z : Byte) : (be24 x y z).toNat = 65536 * x.toNat + 256 * y.toNat + z.toNat := by
  have hz (b : Byte) : (b.setWidth 24).toNat = b.toNat := BitVec.toNat_setWidth_of_le (by decide)
  have hlow : (y.setWidth 24 <<< 8 ||| z.setWidth 24).toNat = 256 * y.toNat + z.toNat := by
    rw [toNat_shiftLeft_or _ _ 8 (by rw [hz]; omega) (by rw [hz]; omega), hz, hz]
    rfl
  rw [be24, BitVec.or_assoc, toNat_shiftLeft_or _ _ 16 (by rw [hlow]; omega) (by rw [hz]; omega), hlow, hz]
  omega

/-- The top 20 bits of a 24-bit field: its low nibble is discarded (R180). -/
theorem toNat_top20 (v : BitVec 24) : ((v >>> 4).setWidth 20).toNat = v.toNat / 16 := by
  rw [BitVec.toNat_setWidth, BitVec.toNat_ushiftRight, Nat.shiftRight_eq_div_pow]
  omega

/-- Settles O28: two fields are the top 20 bits of a big-endian triple, the third is a big-endian pair. -/
theorem fanOutTakesTheTopBits : Obligations.FanOutTakesTheTopBits := by
  intro b
  have htriple (x y z : Byte) : ((be24 x y z >>> 4).setWidth 20).toNat =
      (65536 * x.toNat + 256 * y.toNat + z.toNat) / 16 := by rw [toNat_top20, toNat_be24]
  exact ⟨htriple _ _ _, htriple _ _ _, toNat_be16 _ _⟩

end Sys2Proof.Machine
end

section
/-! PROOFS of the family 43_compensation: the engine's results as exact integers (spec/43_compensation.md R192 to R201),
by the reading of each operation through `toInt`. -/

namespace Sys2Proof.Machine

/-! ## Two more operations (R11, R8) -/

/-- The clamp of signed values is that of their integers (R11). -/
theorem toInt_clampS {w : Nat} (x lo hi : BitVec w) :
    (clampS x lo hi).toInt = Reference.clamp x.toInt lo.toInt hi.toInt := by
  simp only [clampS, Reference.clamp, BitVec.slt_iff_toInt_lt, gt_iff_lt, apply_ite BitVec.toInt]

/-- The low bits of a word are its integer wrapped to the smaller width (R8). -/
theorem setWidth_eq_ofInt_toInt {v w : Nat} (h : v ≤ w) (x : BitVec w) : x.setWidth v = BitVec.ofInt v x.toInt := by
  refine BitVec.eq_of_toInt_eq ?_
  rw [BitVec.toInt_setWidth, BitVec.toInt_ofInt, BitVec.toInt_eq_toNat_bmod,
    Int.bmod_bmod_of_dvd (Nat.pow_dvd_pow 2 h)]

/-! ## Temperature (R192) -/

theorem toInt_tempVar1 (adcT : BitVec 20) (t1 t2 : BitVec 16) :
    (tempVar1 adcT t1 t2).toInt = Reference.tempVar1 adcT.toNat t1.toNat t2.toInt := by
  simp [tempVar1, Reference.tempVar1, Reference.wrap32, toInt_sar, BitVec.toInt_sub, BitVec.toInt_mul,
    toInt_shiftLeft_eq_bmod_mul, -BitVec.toInt_shiftLeft, toInt_sext, toInt_zext]

theorem toInt_tempVar2 (adcT : BitVec 20) (t1 t3 : BitVec 16) :
    (tempVar2 adcT t1 t3).toInt = Reference.tempVar2 adcT.toNat t1.toNat t3.toInt := by
  simp [tempVar2, Reference.tempVar2, Reference.wrap32, toInt_sar, BitVec.toInt_sub, BitVec.toInt_mul, toInt_sext,
    toInt_zext]

theorem toInt_tempOfFine (tf : BitVec 32) : (tempOfFine tf).toInt = Reference.temp tf.toInt := by
  simp [tempOfFine, Reference.temp, Reference.wrap32, toInt_sar, BitVec.toInt_add, BitVec.toInt_mul]

/-- `t_fine` is that of the exact integers. -/
theorem toInt_compTemp_tFine (adcT : BitVec 20) (t1 t2 t3 : BitVec 16) :
    (compTemp adcT t1 t2 t3).tFine.toInt = Reference.tFine adcT.toNat t1.toNat t2.toInt t3.toInt := by
  rw [compTemp, BitVec.toInt_add, toInt_tempVar1, toInt_tempVar2]
  rfl

/-- The temperature is that of the exact integers. -/
theorem toInt_compTemp_temp (adcT : BitVec 20) (t1 t2 t3 : BitVec 16) : (compTemp adcT t1 t2 t3).temp.toInt =
    Reference.temp (Reference.tFine adcT.toNat t1.toNat t2.toInt t3.toInt) := by
  rw [← toInt_compTemp_tFine, ← toInt_tempOfFine]
  rfl

/-- An s32 shifted right by 8 keeps 24 bits. -/
theorem sar_eight_range (x : BitVec 32) : -(2 ^ 23) ≤ (sar x 8).toInt ∧ (sar x 8).toInt < 2 ^ 23 := by
  have hlo := BitVec.le_toInt x
  have hhi := BitVec.toInt_lt (x := x)
  rw [toInt_sar, Reference.shr]
  omega

/-! ## Pressure (R195, R197) -/

theorem toInt_pressVar2 (c : Coeffs) (tf : BitVec 32) :
    (pressVar2 c tf).toInt = Reference.pressVar2 c tf.toInt := by
  simp [pressVar2, Reference.pressVar2, Reference.wrap64, BitVec.toInt_add, BitVec.toInt_mul,
    toInt_shiftLeft_eq_bmod_mul, -BitVec.toInt_shiftLeft, toInt_sext, toInt_pressBase]

/-- The pressure is the last `p` of the exact integers, wrapped to 32 bits (R197). -/
theorem pressStage2_eq_ofInt (c : Coeffs) (adcP : BitVec 20) (var1 var2 : BitVec 64) :
    pressStage2 c adcP var1 var2 =
      BitVec.ofInt 32 (Reference.pressLast c adcP.toNat var1.toInt var2.toInt) := by
  rw [pressStage2, setWidth_eq_ofInt_toInt (by decide)]
  congr 1
  simp [Reference.pressLast, Reference.wrap64, Reference.truncDiv, toInt_sar, BitVec.toInt_add, BitVec.toInt_sub,
    BitVec.toInt_mul, BitVec.toInt_sdiv, toInt_shiftLeft_eq_bmod_mul, -BitVec.toInt_shiftLeft, toInt_sext, toInt_zext]

/-! ## Humidity (R200, R201) -/

/-- H3 in the s32 context, by CAL_H3_SIGNED (R125, R191). -/
theorem toInt_h3Operand (signed : Bool) (h3 : Byte) :
    (h3Operand signed h3).toInt = if signed then h3.toInt else h3.toNat := by
  cases signed with
  | false => exact toInt_zext (by decide) h3
  | true => exact toInt_sext (by decide) h3

theorem toInt_humStage1 (signed : Bool) (c : Coeffs) (adcH : BitVec 16) (tf : BitVec 32) :
    (humStage1 signed c adcH tf).toInt =
      Reference.humStage1 c (if signed then c.h3.toInt else c.h3.toNat) adcH.toNat tf.toInt := by
  simp [humStage1, Reference.humStage1, Reference.wrap32, toInt_sar, BitVec.toInt_add, BitVec.toInt_sub,
    BitVec.toInt_mul, toInt_shiftLeft_eq_bmod_mul, -BitVec.toInt_shiftLeft, toInt_sext, toInt_zext, toInt_h3Operand]

theorem toInt_humPreClamp (c : Coeffs) (v : BitVec 32) :
    (humPreClamp c v).toInt = Reference.humPreClamp c v.toInt := by
  simp [humPreClamp, Reference.humPreClamp, Reference.wrap32, toInt_sar, BitVec.toInt_sub, BitVec.toInt_mul, toInt_zext]

/-- The humidity is that of the exact integers. -/
theorem toInt_compHumWith (signed : Bool) (c : Coeffs) (adcH : BitVec 16) (tf : BitVec 32) :
    (compHumWith signed c adcH tf).toInt =
      Reference.hum c (if signed then c.h3.toInt else c.h3.toNat) adcH.toNat tf.toInt := by
  rw [compHumWith, toInt_sar, toInt_clampS, toInt_humPreClamp, toInt_humStage1]
  rfl

/-- A clamped value lies between its bounds (R11). -/
theorem clamp_range {lo hi : Int} (h : lo ≤ hi) (x : Int) :
    lo ≤ Reference.clamp x lo hi ∧ Reference.clamp x lo hi ≤ hi := by
  unfold Reference.clamp
  split_ifs <;> omega

/-- The rule's humidity lies in [0, 102400] (R201, R202). -/
theorem hum_range (c : Coeffs) (h3 : Int) (adcH : Nat) (tf : Int) :
    0 ≤ Reference.hum c h3 adcH tf ∧ Reference.hum c h3 adcH tf ≤ 102400 := by
  have hclamp := clamp_range (lo := 0) (hi := 419430400) (by decide)
    (Reference.humPreClamp c (Reference.humStage1 c h3 adcH tf))
  rw [Reference.hum, Reference.shr]
  omega

/-! ## The statements about the engine -/

/-- Settles O29: the rule's result is not negative, so the word and its integer are the same number. -/
theorem humidityEngineForEitherSignOfH3 : Obligations.HumidityEngineForEitherSignOfH3 := by
  intro signed c adcH tf
  rw [← toInt_compHumWith]
  have hpos : 0 ≤ (compHumWith signed c adcH tf).toInt := by
    rw [toInt_compHumWith]
    exact (hum_range _ _ _ _).1
  exact (BitVec.toInt_eq_toNat_of_lt (BitVec.toInt_pos_iff.1 hpos)).symm

/-- Settles O30: the last operation is a shift by 8. -/
theorem temperatureRange : Obligations.TemperatureRange := fun _ _ _ _ => sar_eight_range _

/-- A calibration whose humidity meets the clamp: with `t_fine` at its base only H2 counts. -/
def saturatingCoeffs : Coeffs := { Coeffs.zero with h2 := 100 }

/-- Settles O31: the rule's result is clamped, and a full-scale sample meets the clamp. -/
theorem humidityIsClamped : Obligations.HumidityIsClamped := by
  refine ⟨fun c adcH tf => ?_, saturatingCoeffs, 0xFFFF, 76800, by decide⟩
  have hrule := humidityEngineForEitherSignOfH3 Config.calH3Signed c adcH tf
  have hle := (hum_range c (if Config.calH3Signed then c.h3.toInt else c.h3.toNat) adcH.toNat tf.toInt).2
  rw [← hrule] at hle
  exact_mod_cast hle

end Sys2Proof.Machine
end

section
/-! PROOFS of the family 43_compensation: COMP_T, COMP_P and COMP_H, their pre-checks, each path with the whole next
state, and what their results depend on (spec/43_compensation.md R190, R193, R198, R203). -/

namespace Sys2Proof.Machine

/-! ## The pre-checks of the commands that issue no transaction: CB is ignored (R231, R233) -/

section
variable {i : Instr} {s : State}

/-- A block that is not open refuses a command gated by `open` (R231 item 3). -/
theorem preCheck_notOpen_of_not_bus (hbus : isBusCommand i = false) (hgated : needsOpen i = true)
    (ho : s.isOpen = false) : preCheck i s = some .notOpen := by
  simp [preCheck, hbus, hgated, ho]

/-- With the block open and no sample a command gated by `raw_valid` is refused (R231 item 5). -/
theorem preCheck_noSample (hbus : isBusCommand i = false) (ho : s.isOpen = true) (hany : needsNoSession i = false)
    (hgated : needsSample i = true) (hr : s.rawValid = false) : preCheck i s = some .noSample := by
  simp [preCheck, hbus, ho, hany, hgated, hr]

/-- With the block open and `t_fine` not valid a command gated by `tf_valid` is refused (R231 item 6). -/
theorem preCheck_noTfine (hbus : isBusCommand i = false) (ho : s.isOpen = true) (hany : needsNoSession i = false)
    (hfree : needsSample i = false) (hgated : needsTfine i = true) (htf : s.tfValid = false) :
    preCheck i s = some .noTfine := by
  simp [preCheck, hbus, ho, hany, hfree, hgated, htf]

end

/-- COMP_T passes its pre-checks exactly when the block is open and holds a sample (R231). -/
theorem preCheck_compT_eq_none_iff (cb : Bool) (s : State) :
    preCheck (.compT cb) s = none ↔ s.isOpen = true ∧ s.rawValid = true := by
  simp [preCheck_eq_none_iff, isBusCommand, needsOpen, needsNoSession, needsSample, needsTfine]

/-- COMP_H passes its pre-checks exactly when the block is open and `t_fine` is valid (R231). -/
theorem preCheck_compH_eq_none_iff (cb : Bool) (s : State) :
    preCheck (.compH cb) s = none ↔ s.isOpen = true ∧ s.tfValid = true := by
  simp [preCheck_eq_none_iff, isBusCommand, needsOpen, needsNoSession, needsSample, needsTfine]

/-! ## The command rules -/

/-- COMP_T past its pre-checks, on exact integers (R192, R193). -/
theorem compTBody_eq (s : State) :
    let tf := Reference.tFine s.raw.adcT.toNat s.coef.t1.toNat s.coef.t2.toInt s.coef.t3.toInt
    compTBody s = ended 0x00 (BitVec.ofInt 32 (Reference.temp tf))
      { s with tFine := BitVec.ofInt 32 tf, tfValid := true } := by
  intro tf
  have hfine : (compTemp s.raw.adcT s.coef.t1 s.coef.t2 s.coef.t3).tFine.toInt = tf := toInt_compTemp_tFine _ _ _ _
  have htemp : (compTemp s.raw.adcT s.coef.t1 s.coef.t2 s.coef.t3).temp.toInt = Reference.temp tf :=
    toInt_compTemp_temp _ _ _ _
  rw [← htemp, ← hfine, BitVec.ofInt_toInt, BitVec.ofInt_toInt]
  rfl

/-- Settles O22: the pre-checks refuse, or the engine's results are those of the exact integers. -/
theorem compTFollowsItsRule : Obligations.CompTFollowsItsRule := by
  refine ⟨fun cb => opcode_encode (.compT cb), fun s cb =>
    ⟨fun ho => exec_of_refuse (preCheck_notOpen_of_not_bus rfl rfl ho),
      fun ho hr => exec_of_refuse (preCheck_noSample rfl ho rfl rfl hr), fun ho hr => ?_⟩⟩
  intro tf
  rw [exec_of_pass ((preCheck_compT_eq_none_iff cb s).2 ⟨ho, hr⟩)]
  exact congrArg Host.Outcome.next (compTBody_eq s)

/-- Settles O23: the pre-checks refuse, or the guard of R196 chooses the path. -/
theorem compPFollowsItsRule : Obligations.CompPFollowsItsRule := by
  refine ⟨fun cb => opcode_encode (.compP cb), fun s cb => ?_⟩
  intro v1 v2
  refine ⟨fun ho => exec_of_refuse (preCheck_notOpen_of_not_bus rfl rfl ho),
    fun ho htf => exec_of_refuse (preCheck_noTfine rfl ho rfl rfl rfl htf), ?_⟩
  have hexec (ho : s.isOpen = true) (htf : s.tfValid = true) : exec (.compP cb) s = .next (compPBody s) :=
    exec_of_pass ((preCheck_compP_eq_none_iff cb s).2 ⟨ho, htf⟩)
  have hguard : pressVar1 s.coef s.tFine = 0 ↔ v1 = 0 := pressVar1_eq_zero_iff s.coef s.tFine
  obtain ⟨h, hb⟩ | ⟨h, hb⟩ := compPBody_cases s
  · refine ⟨fun ho htf _ => ?_, fun _ _ hv => absurd (hguard.1 h) hv⟩
    rw [hexec ho htf, hb]
    rfl
  · refine ⟨fun _ _ hv => absurd (hguard.2 hv) h, fun ho htf _ => ?_⟩
    rw [hexec ho htf, hb, pressStage2_eq_ofInt, toInt_pressVar1, toInt_pressVar2]
    rfl

/-- COMP_H past its pre-checks, on exact integers (R200, R201, R203). -/
theorem compHBody_eq (s : State) : compHBody s =
    ended 0x00 (BitVec.ofInt 32 (Reference.hum s.coef s.coef.h3.toNat s.raw.adcH.toNat s.tFine.toInt)) s := by
  have hrule : (compHum s.coef s.raw.adcH s.tFine).toInt =
      Reference.hum s.coef s.coef.h3.toNat s.raw.adcH.toNat s.tFine.toInt := toInt_compHumWith false _ _ _
  rw [← hrule, BitVec.ofInt_toInt]
  rfl

/-- Settles O24: the pre-checks refuse, or the engine's result is that of the exact integers. -/
theorem compHFollowsItsRule : Obligations.CompHFollowsItsRule := by
  refine ⟨fun cb => opcode_encode (.compH cb), fun s cb =>
    ⟨fun ho => exec_of_refuse (preCheck_notOpen_of_not_bus rfl rfl ho),
      fun ho htf => exec_of_refuse (preCheck_noTfine rfl ho rfl rfl rfl htf), fun ho htf => ?_⟩⟩
  rw [exec_of_pass ((preCheck_compH_eq_none_iff cb s).2 ⟨ho, htf⟩)]
  exact congrArg Host.Outcome.next (compHBody_eq s)

/-! ## What the results depend on (R190) -/

/-- The pressure reads none of T1 to T3 and H1 to H6. -/
theorem compPress_congr {c c' : Coeffs} (adcP : BitVec 20) (tf : BitVec 32)
    (h : c = { c' with t1 := c.t1, t2 := c.t2, t3 := c.t3, h1 := c.h1, h2 := c.h2, h3 := c.h3, h4 := c.h4, h5 := c.h5,
                       h6 := c.h6 }) : compPress c adcP tf = compPress c' adcP tf :=
  (congrArg (fun d => compPress d adcP tf) h).trans rfl

/-- The humidity reads none of the coefficients but H1 to H6. -/
theorem compHum_congr {c c' : Coeffs} (adcH : BitVec 16) (tf : BitVec 32) (h1 : c.h1 = c'.h1) (h2 : c.h2 = c'.h2)
    (h3 : c.h3 = c'.h3) (h4 : c.h4 = c'.h4) (h5 : c.h5 = c'.h5) (h6 : c.h6 = c'.h6) :
    compHum c adcH tf = compHum c' adcH tf := by
  simp only [compHum, compHumWith, humPreClamp, humStage1, h1, h2, h3, h4, h5, h6]

/-- Settles O32: past its pre-checks each command applies its function to the stated registers. -/
theorem resultsDependOnTheirInputsAlone : Obligations.ResultsDependOnTheirInputsAlone := by
  intro cb s s' t t' ho ho'
  refine ⟨fun hr hr' hadc ht1 ht2 ht3 h h' => ?_, fun htf htf' hfine => ⟨fun hadc hcoef h h' => ?_,
    fun hadc hh1 hh2 hh3 hh4 hh5 hh6 h h' => ?_⟩⟩
  · obtain rfl : t = compTBody s := eq_body_of_exec ((preCheck_compT_eq_none_iff cb s).2 ⟨ho, hr⟩) h
    obtain rfl : t' = compTBody s' := eq_body_of_exec ((preCheck_compT_eq_none_iff cb s').2 ⟨ho', hr'⟩) h'
    simp [compTBody, setTFine, hadc, ht1, ht2, ht3]
  · obtain rfl : t = compPBody s := eq_body_of_exec ((preCheck_compP_eq_none_iff cb s).2 ⟨ho, htf⟩) h
    obtain rfl : t' = compPBody s' := eq_body_of_exec ((preCheck_compP_eq_none_iff cb s').2 ⟨ho', htf'⟩) h'
    simp [compPBody, hadc, hfine, compPress_congr s'.raw.adcP s'.tFine hcoef]
  · obtain rfl : t = compHBody s := eq_body_of_exec ((preCheck_compH_eq_none_iff cb s).2 ⟨ho, htf⟩) h
    obtain rfl : t' = compHBody s' := eq_body_of_exec ((preCheck_compH_eq_none_iff cb s').2 ⟨ho', htf'⟩) h'
    simp [compHBody, hadc, hfine, compHum_congr s'.raw.adcH s'.tFine hh1 hh2 hh3 hh4 hh5 hh6]

end Sys2Proof.Machine
end

section
/-! PROOFS of the family 43_compensation: COMP_P and COMP_H in any order (spec/43_compensation.md R204). Neither reads
what it writes, the outputs; so each finds after the other what it found before it. -/

namespace Sys2Proof.Machine

/-- COMP_P and COMP_H write the outputs alone, whether a pre-check refuses them or not (R198, R203). -/
theorem exec_usesTfine {i : Instr} (hi : usesTfine i) (s : State) :
    ∃ sts res, exec i s = .next (ended sts res s) := by
  rw [exec_eq]
  obtain ⟨code, -, hg⟩ | ⟨-, hg⟩ := guarded_cases i (bodyOf i) s
  · exact ⟨_, _, congrArg _ hg⟩
  · rw [hg]
    obtain ⟨cb, rfl | rfl⟩ := hi
    · exact ⟨_, _, rfl⟩
    · exact ⟨_, _, rfl⟩

/-- COMP_P and COMP_H do not read the outputs (R190). -/
theorem exec_ended {i : Instr} (hi : usesTfine i) (sts : BitVec 8) (res : BitVec 32) (s : State) :
    exec i (ended sts res s) = exec i s := by
  have hpre : preCheck i (ended sts res s) = preCheck i s := preCheck_congr i rfl rfl rfl rfl
  cases hc : preCheck i s with
  | some code =>
    rw [exec_of_refuse hc, exec_of_refuse (hpre.trans hc)]
    rfl
  | none =>
    rw [exec_of_pass hc, exec_of_pass (hpre.trans hc)]
    obtain ⟨cb, rfl | rfl⟩ := hi
    · rfl
    · rfl

/-- After any list of COMP_P and COMP_H, each of them does what it did before the list. -/
theorem exec_after_execAll {l : List Instr} {i : Instr} (hl : ∀ j ∈ l, usesTfine j) (hi : usesTfine i) (s : State) :
    ∃ t, execAll l s = .next t ∧ exec i t = exec i s := by
  induction l generalizing s with
  | nil => exact ⟨s, rfl, rfl⟩
  | cons j rest ih =>
    obtain ⟨hj, hrest⟩ := List.forall_mem_cons.1 hl
    obtain ⟨sts, res, hexec⟩ := exec_usesTfine hj s
    obtain ⟨t, hrun, ht⟩ := ih hrest (ended sts res s)
    refine ⟨t, ?_, ht.trans (exec_ended hi sts res s)⟩
    rw [execAll, hexec]
    exact hrun

/-- Without a valid `t_fine`, or not open, COMP_P and COMP_H are refused (R231 items 3 and 6). -/
theorem exec_usesTfine_refused {i : Instr} (hi : usesTfine i) {t : State} (ht : t.isOpen = false ∨ t.tfValid = false) :
    exec i t = .next (ended 0x06 0 t) ∨ exec i t = .next (ended 0x04 0 t) := by
  obtain ⟨hbus, hopen, hany, hfree, hgated⟩ : isBusCommand i = false ∧ needsOpen i = true ∧
      needsNoSession i = false ∧ needsSample i = false ∧ needsTfine i = true := by
    obtain ⟨cb, rfl | rfl⟩ := hi
    · exact ⟨rfl, rfl, rfl, rfl, rfl⟩
    · exact ⟨rfl, rfl, rfl, rfl, rfl⟩
  cases ho : t.isOpen with
  | false => exact .inr (exec_of_refuse (preCheck_notOpen_of_not_bus hbus hopen ho))
  | true =>
    have htf : t.tfValid = false := ht.resolve_left (by simp [ho])
    exact .inl (exec_of_refuse (preCheck_noTfine hbus ho hany hfree hgated htf))

/-- A READ_RAW that ends with STS 0 has taken a sample, so `t_fine` is stale (R181). -/
theorem readRawBody_stale_of_sts_zero {s : State} (h : (readRawBody s).sts = 0x00#8) :
    (readRawBody s).tfValid = false := by
  obtain ⟨-, hb⟩ | ⟨-, hb⟩ := readRawBody_cases s
  · simp [hb] at h
  · simp [hb]

/-- A POLL with RD = 1 that ends with STS 0 in this pass has taken a sample, so `t_fine` is stale (R150). -/
theorem pollPass_stale_of_sts_zero {tmo : BitVec 32} {s : State} (hi : (pollPass true tmo s).phase = .idle)
    (h : (pollPass true tmo s).sts = 0x00#8) : (pollPass true tmo s).tfValid = false := by
  obtain ⟨-, hb⟩ | ⟨-, -, ⟨hrd, -⟩ | ⟨-, -, hb⟩ | ⟨-, -, hb⟩⟩ | ⟨-, -, ⟨-, -, hb⟩ | ⟨-, hb⟩⟩ :=
    pollPass_cases true tmo s
  · simp [hb] at h
  · cases hrd
  · simp [hb] at h
  · simp [hb]
  · simp [hb] at h
  · simp [hb] at hi

/-- A block is not open after CLOSE (R148). -/
theorem closeBody_isOpen (s : State) : (closeBody s).isOpen = false := by
  obtain ⟨ho, h, -⟩ | ⟨-, h, -⟩ := closeBody_flags_cases s
  · rw [h, ho]
  · exact h

/-- Settles O33: COMP_P and COMP_H neither read nor write more than each other's outputs; each of the commands listed
leaves the block not open or `t_fine` stale. -/
theorem pressureAndHumidityInAnyOrder : Obligations.PressureAndHumidityInAnyOrder := by
  constructor
  · intro l i s _ _ hl hi
    obtain ⟨t, hrun, ht⟩ := exec_after_execAll hl hi s
    obtain ⟨sts, res, hexec⟩ := exec_usesTfine hi s
    exact ⟨t, _, _, hrun, hexec, ht.trans hexec, rfl, rfl⟩
  · intro i s t hi h
    refine exec_usesTfine_refused hi ?_
    obtain ⟨he, hsts⟩ | ⟨tmo, hbusy, hstep, hidle, hsts⟩ | ⟨tmo, he, hidle, hsts⟩ | ⟨hs, he⟩ | he := h
    · obtain rfl : t = readRawBody s := (exec_sts_zero he hsts).2
      exact .inr (readRawBody_stale_of_sts_zero hsts)
    · obtain rfl := eq_pollPass_of_step hbusy hstep
      exact .inr (pollPass_stale_of_sts_zero hidle hsts)
    · obtain rfl : t = pollPass true tmo (pollStart s) := (exec_sts_zero he hsts).2
      exact .inr (pollPass_stale_of_sts_zero hidle hsts)
    · obtain rfl : t = openBody s := eq_body_of_exec ((preCheck_openCmd_eq_none_iff false s).2 ⟨rfl, hs⟩) he
      exact .inr (openBody_clears_validity s).2
    · obtain rfl : t = closeBody s := eq_body_of_exec (preCheck_closeCmd s) he
      exact .inl (closeBody_isOpen s)

end Sys2Proof.Machine
end

section
/-! PROOFS of the family 60_exceptions: no step stops the block, and a word with a reserved opcode, a reserved bit or a
stray field is no command (spec/60_exceptions.md R232, R242, spec/30_encoding.md R83, R100). -/

namespace Sys2Proof

/-! ## What the fields of a command are not (R82, R100) -/

/-- The opcode of a command is one that R82 defines. -/
theorem Instr.opc_fields_range (i : Instr) : 1 ≤ i.fields.opc.toNat ∧ i.fields.opc.toNat ≤ 10 := by
  cases i <;> simp [Instr.fields]

/-- The reserved bits of a command are 0. -/
theorem Instr.fields_reserved (i : Instr) : i.fields.rsvLow = 0 ∧ i.fields.rsvHigh = 0 := by
  cases i <;> exact ⟨rfl, rfl⟩

/-- Only POLL has RD and TMO. -/
theorem Instr.fields_of_opc_ne_poll {i : Instr} (h : i.fields.opc.toNat ≠ 6) :
    i.fields.rd = false ∧ i.fields.tmo = 0 := by
  cases i with
  | poll => exact absurd rfl h
  | _ => exact ⟨rfl, rfl⟩

/-- Only TRIGGER_FORCED has OT, OP and OH. -/
theorem Instr.fields_of_opc_ne_triggerForced {i : Instr} (h : i.fields.opc.toNat ≠ 3) :
    i.fields.ot = 0 ∧ i.fields.op = 0 ∧ i.fields.oh = 0 := by
  cases i with
  | triggerForced => exact absurd rfl h
  | _ => exact ⟨rfl, rfl, rfl⟩

/-- Only START_NORMAL has SB. -/
theorem Instr.fields_of_opc_ne_startNormal {i : Instr} (h : i.fields.opc.toNat ≠ 4) : i.fields.sb = 0 := by
  cases i with
  | startNormal => exact absurd rfl h
  | _ => rfl

/-- OT, OP and OH stand side by side in the word, from bit 8 on (R80). -/
theorem extractLsb'_osrs (w : CommandWord) :
    w.extractLsb' 8 9 = w.extractLsb' 14 3 ++ (w.extractLsb' 11 3 ++ w.extractLsb' 8 3) := by
  rw [BitVec.extractLsb'_append_extractLsb'_eq_extractLsb' (by rfl),
    BitVec.extractLsb'_append_extractLsb'_eq_extractLsb' (by rfl)]

/-- Each way of R100 and R232 to be illegal: the word decodes to none. -/
theorem decode_eq_none_of_stray {w : CommandWord} (h : let opc := (w.extractLsb' 0 4).toNat
    opc = 0 ∨ 11 ≤ opc ∨ w.extractLsb' 6 2 ≠ 0 ∨ w.extractLsb' 20 12 ≠ 0 ∨ (w.getLsbD 5 = true ∧ opc ≠ 6) ∨
      (w.extractLsb' 8 9 ≠ 0 ∧ opc ≠ 3) ∨ (w.extractLsb' 17 3 ≠ 0 ∧ opc ≠ 4) ∨ (w.extractLsb' 32 32 ≠ 0 ∧ opc ≠ 6)) :
    decode w = none := by
  rw [Option.eq_none_iff_forall_ne_some]
  intro i hi
  obtain ⟨hopc, -, hrd, hrsvLow, hot, hop, hoh, hsb, hrsvHigh, htmo⟩ :=
    (Fields.ofWord_eq_iff w i.fields).1 (decode_eq_some_iff.1 hi)
  rw [← ofBool_getLsbD, BitVec.ofBool_eq_iff_eq] at hrd
  rw [extractLsb'_osrs, hopc, hrd, hrsvLow, hot, hop, hoh, hsb, hrsvHigh, htmo] at h
  obtain ⟨hlo, hhi⟩ := i.opc_fields_range
  obtain ⟨hzLow, hzHigh⟩ := i.fields_reserved
  obtain h | h | h | h | ⟨h, hne⟩ | ⟨h, hne⟩ | ⟨h, hne⟩ | ⟨h, hne⟩ := h
  · omega
  · omega
  · exact h hzLow
  · exact h hzHigh
  · simp [(Instr.fields_of_opc_ne_poll hne).1] at h
  · obtain ⟨hzt, hzp, hzh⟩ := Instr.fields_of_opc_ne_triggerForced hne
    exact h (by rw [hzt, hzp, hzh]; rfl)
  · exact h (Instr.fields_of_opc_ne_startNormal hne)
  · exact h (Instr.fields_of_opc_ne_poll hne).2

/-- Settles O13: the fields of the word are those of no command, so the step is that of an ILLEGAL word (R83). -/
theorem illegalWordsOnlySetTheOutputs : Obligations.IllegalWordsOnlySetTheOutputs := by
  intro s w rest hphase hport opc h
  obtain ⟨-, -, hillegal⟩ := decodingFollowsTheMaskTable
  exact hillegal s w rest hphase hport (decode_eq_none_of_stray h)

/-- Settles O7: a pass of POLL, an idle step, an ILLEGAL word and a command each leave a state. -/
theorem everyStepAnswersANextState : Obligations.EveryStepAnswersANextState := by
  intro s
  cases hphase : s.phase with
  | busy rd tmo => exact ⟨_, Machine.step_busy hphase⟩
  | idle =>
    cases hport : s.port with
    | nil => exact ⟨_, Machine.step_idle_empty hphase hport⟩
    | cons w rest =>
      cases hd : decode w with
      | none => exact ⟨_, Machine.step_idle_illegal hphase hport hd⟩
      | some i =>
        exact ⟨_, (Machine.stepRunsTheDecodedCommand s w rest i hphase hport hd).trans (Machine.exec_eq i _)⟩

end Sys2Proof
end

section
/-! PROOFS of the family 60_exceptions: the pre-checks in their order (spec/60_exceptions.md R231, R233 to R237). -/

namespace Sys2Proof.Machine

/-! ## The checks where no earlier one applies (R231) -/

section
variable {i : Instr} {s : State}

/-- A block that is not open refuses a command gated by `open`, when CONTEXT does not apply (R231 item 3). -/
theorem preCheck_notOpen_of_no_context (hcontext : ¬(isBusCommand i = true ∧ commandCb i = true))
    (hgated : needsOpen i = true) (ho : s.isOpen = false) : preCheck i s = some .notOpen := by
  simp [preCheck, hcontext, hgated, ho]

/-- A live session refuses a command that needs none, when neither CONTEXT nor NOT_OPEN applies (R231 item 4). -/
theorem preCheck_sessionActive_of_no_earlier (hcontext : ¬(isBusCommand i = true ∧ commandCb i = true))
    (hopen : needsOpen i = true → s.isOpen = true) (hsingle : needsNoSession i = true)
    (hs : s.sessionActive = true) : preCheck i s = some .sessionActive := by
  have hnotOpen : ¬(needsOpen i = true ∧ s.isOpen = false) := fun ⟨hgated, ho⟩ => by simp [hopen hgated] at ho
  simp [preCheck, hcontext, hnotOpen, hsingle, hs]

end

/-- The commands of R231 item 2 with CB = 1. -/
theorem context_iff (i : Instr) : (∃ ot op oh sb rd tmo, i ∈ ([.openCmd true, .closeCmd true,
    .triggerForced true ot op oh, .startNormal true sb, .stop true, .poll true rd tmo, .readRaw true] : List Instr)) ↔
      isBusCommand i = true ∧ commandCb i = true := by
  cases i <;> simp [isBusCommand, commandCb]

/-- The commands of R231 item 3. -/
theorem needsOpen_iff (i : Instr) : (∃ cb ot op oh sb rd tmo, i ∈ ([.triggerForced cb ot op oh, .startNormal cb sb,
    .poll cb rd tmo, .readRaw cb, .compT cb, .compP cb, .compH cb] : List Instr)) ↔ needsOpen i = true := by
  cases i <;> simp [needsOpen]

/-- The commands of R231 item 4. -/
theorem needsNoSession_iff (i : Instr) : (∃ cb ot op oh sb, i ∈ ([.openCmd cb, .triggerForced cb ot op oh,
    .startNormal cb sb] : List Instr)) ↔ needsNoSession i = true := by
  cases i <;> simp [needsNoSession]

/-- Settles O12: the lists are the model's own groups of commands, and each check answers where no earlier one does. -/
theorem preChecksApplyInOrder : Obligations.PreChecksApplyInOrder := by
  intro i s
  simp only [context_iff, needsOpen_iff, needsNoSession_iff]
  refine ⟨fun ⟨hbus, hcb⟩ => exec_of_refuse (preCheck_context s hbus hcb),
    fun hcontext hgated ho => exec_of_refuse (preCheck_notOpen_of_no_context hcontext hgated ho),
    fun hcontext hopen hsingle hs =>
      exec_of_refuse (preCheck_sessionActive_of_no_earlier hcontext hopen hsingle hs), ?_, ?_⟩
  · rintro - hopen ⟨cb, rfl⟩ hr
    exact exec_of_refuse (preCheck_noSample rfl (hopen rfl) rfl rfl hr)
  · rintro - hopen ⟨cb, rfl | rfl⟩ htf
    · exact exec_of_refuse (preCheck_noTfine rfl (hopen rfl) rfl rfl rfl htf)
    · exact exec_of_refuse (preCheck_noTfine rfl (hopen rfl) rfl rfl rfl htf)

end Sys2Proof.Machine
end

section
/-! PROOFS of the family 70_reset_and_hazards: the state after reset (spec/70_reset_and_hazards.md R260). -/

namespace Sys2Proof.Machine

/-- Settles O8: each field is read off `State.reset` (R22). -/
theorem resetStateIsAsStated : Obligations.ResetStateIsAsStated := by
  unfold Obligations.ResetStateIsAsStated
  and_intros <;> rfl

/-- The reset state is closed already and stands as after a command that ended OK: clearing the validity flags and
ending with the outputs 0 changes nothing in it (R22, R37). -/
theorem finish_clearValidity_reset : finish .ok 0 false (clearValidity State.reset) = State.reset := rfl

/-- Settles O9: reset is the state of a cleared block with no session after a command that ended OK, and it is IDLE. -/
theorem resetMeetsTheInvariant : Obligations.ResetMeetsTheInvariant := by
  have hcleared : Coherent (clearValidity State.reset) := .clearValidity (by decide) rfl
  constructor
  · rw [← finish_clearValidity_reset]
    exact hcleared.finish
  · exact .of_idle rfl

end Sys2Proof.Machine
end
